-- ==== Sys2Proof/Word.lean ====
section
/-! DEFINITION. The words of the ES-464: bytes, 48-bit station addresses, the 16-bit and 32-bit numbers that
wrap, the host names H0 to H3, and a record that holds one value for each host. -/

namespace Sys2Proof

/-- One byte of a frame, of a request or of a response. -/
abbrev Byte := BitVec 8

/-- A station address (00_scope, "Station addresses"): the first octet written is bits 47 to 40. -/
abbrev Address := BitVec 48

/-- A 16-bit number that follows 65,535 with 0: a generation, a stamp, a sequence number, a serial. -/
abbrev Word16 := BitVec 16

/-- A 32-bit number that follows 4,294,967,295 with 0: the tick count; also the frame check register. -/
abbrev Word32 := BitVec 32

/-- The four hosts; a host's number is the number of its host port (00_scope, "Names"). -/
inductive HostId where
  | h0 | h1 | h2 | h3
deriving DecidableEq, Repr

/-- The host's number, 0 to 3. -/
def HostId.toNat : HostId → Nat
  | .h0 => 0
  | .h1 => 1
  | .h2 => 2
  | .h3 => 3

/-- The hosts in ascending order of host number. -/
def HostId.all : List HostId := [.h0, .h1, .h2, .h3]

/-- The host after this one in the circular order H0, H1, H2, H3, H0 (R145). -/
def HostId.succ : HostId → HostId
  | .h0 => .h1
  | .h1 => .h2
  | .h2 => .h3
  | .h3 => .h0

/-- One value for each of H0 to H3. -/
structure PerHost (α : Type) where
  h0 : α
  h1 : α
  h2 : α
  h3 : α
deriving DecidableEq, Repr

/-- The value of host `h`. -/
def PerHost.get {α : Type} (p : PerHost α) : HostId → α
  | .h0 => p.h0
  | .h1 => p.h1
  | .h2 => p.h2
  | .h3 => p.h3

/-- `p` with the value of host `h` replaced. -/
def PerHost.set {α : Type} (p : PerHost α) : HostId → α → PerHost α
  | .h0, v => { p with h0 := v }
  | .h1, v => { p with h1 := v }
  | .h2, v => { p with h2 := v }
  | .h3, v => { p with h3 := v }

/-- The same value for every host. -/
def PerHost.same {α : Type} (v : α) : PerHost α := ⟨v, v, v, v⟩

/-- `f` applied to the value of every host. -/
def PerHost.map {α β : Type} (p : PerHost α) (f : α → β) : PerHost β :=
  ⟨f p.h0, f p.h1, f p.h2, f p.h3⟩

/-- The hosts whose value is true, in ascending order: a set of hosts written as a list. -/
def PerHost.members (p : PerHost Bool) : List HostId := HostId.all.filter p.get

/-- The cell of a vector at each place replaced by `f` of it (written over lists, so that it computes by
structural recursion). -/
def mapVector {α β : Type} {n : Nat} (v : Vector α n) (f : α → β) : Vector β n :=
  ⟨⟨v.toList.map f⟩, by simp⟩

end Sys2Proof
end

