-- ==== Sys2Proof/Config.lean ====
section
/-! DEFINITION. The fixed quantities of the ES-464 (00_scope, "Numbers used throughout") and its identity
codes. They are fixed properties of the part, not fields of the configuration record (R75), which lies in
State. The spec leaves no result of a command open, so there is no free value here. -/

namespace Sys2Proof.Config

/-- Station table entries (R1). -/
abbrev tableSize : Nat := 64
/-- Frame pool cells (R65). -/
abbrev cellCount : Nat := 384
/-- Bytes of one cell (R65). -/
abbrev cellBytes : Nat := 128
/-- Frame records (R67). -/
abbrev recordCount : Nat := 128
/-- Cells of the longest chain: a chain of 12 cells is full at 1,536 stored bytes (R72). -/
abbrev chainCells : Nat := 12
/-- The receive reserve, in cells (R75). -/
abbrev receiveReserve : Nat := 48
/-- The handle reserve, in records (R75). -/
abbrev handleReserve : Nat := 8
/-- Positions of a receive queue (R110). -/
abbrev receiveQueueSize : Nat := 32
/-- Positions of a hold list (R110). -/
abbrev holdListSize : Nat := 16
/-- Positions of a transmit queue (R142). -/
abbrev transmitQueueSize : Nat := 8
/-- Records of a completion ring (R142). -/
abbrev completionRingSize : Nat := 8
/-- Records of a notice list (R182). -/
abbrev noticeListSize : Nat := 16
/-- The upper bound of a lost count and of a collision count (R182, R13). -/
abbrev smallCountMax : Nat := 255
/-- The upper bound of a counter (00_scope, "Numbers and quantities"). -/
abbrev counterMax : Nat := 4294967295
/-- The shortest and the longest stored frame (R66). -/
abbrev minFrame : Nat := 60
abbrev maxFrame : Nat := 1514
/-- The largest parameter length of a request (R172). -/
abbrev maxParameters : Nat := 1530
/-- The rest between two wake attempts, in ticks (R129). -/
abbrev wakeRest : Nat := 1

/-- The wait byte (R186). -/
abbrev waitByte : Byte := 0xFF
/-- The identity codes that IDENTIFY returns (section 11.9). -/
abbrev vendorCode : Word16 := 0x5643
abbrev partCode : Word16 := 0x0464
abbrev revision : Byte := 0x01

end Sys2Proof.Config
end

