-- ==== Sys2Proof/Syntax.lean ====
section
/-! DEFINITION. The commands of the ES-464: one constructor for each row of spec/opcode_table.json.

A row of the host command list (ATTACH to WITHDRAW) is the transaction step in which host `h` shifts in the
request that carries that command: the command code of section 11.3 first, then `bytes`, the bytes that follow it
(tag, parameter length, parameters and check byte, R172). UNKNOWN_COMMAND carries its code. The other rows are
events on a pin, on the line or within the part. -/

namespace Sys2Proof

/-- The two kinds of device reset (R181). -/
inductive ResetCause where
  | powerOn | resetPin
deriving DecidableEq, Repr

/-- An index of the station table (R1). -/
abbrev Index := Fin Config.tableSize

/-- The commands and events of the part, in the order of the opcode table. -/
inductive Instr where
  /-- ATTACH (R178). -/
  | attach (h : HostId) (bytes : List Byte)
  /-- DETACH (R179). -/
  | detach (h : HostId) (bytes : List Byte)
  /-- IDENTIFY (R180). -/
  | identify (h : HostId) (bytes : List Byte)
  /-- READ_NOTICES (R183). -/
  | readNotices (h : HostId) (bytes : List Byte)
  /-- SET_NOTICE_MASK (R184). -/
  | setNoticeMask (h : HostId) (bytes : List Byte)
  /-- READ_COUNTERS (R185). -/
  | readCounters (h : HostId) (bytes : List Byte)
  /-- CLEAR_COUNTERS (R185). -/
  | clearCounters (h : HostId) (bytes : List Byte)
  /-- READ_TICK (R52). -/
  | readTick (h : HostId) (bytes : List Byte)
  /-- STAGE (R23). -/
  | stage (h : HostId) (bytes : List Byte)
  /-- BIND (R28). -/
  | bind (h : HostId) (bytes : List Byte)
  /-- YIELD (R30). -/
  | yield (h : HostId) (bytes : List Byte)
  /-- SET_ACTION (R32). -/
  | setAction (h : HostId) (bytes : List Byte)
  /-- JOIN (R33). -/
  | join (h : HostId) (bytes : List Byte)
  /-- LEAVE (R34). -/
  | leave (h : HostId) (bytes : List Byte)
  /-- OFFER (R36). -/
  | offer (h : HostId) (bytes : List Byte)
  /-- ACCEPT (R39). -/
  | accept (h : HostId) (bytes : List Byte)
  /-- REFUSE (R40). -/
  | refuse (h : HostId) (bytes : List Byte)
  /-- RETRACT (R41). -/
  | retract (h : HostId) (bytes : List Byte)
  /-- RENEW (R61). -/
  | renew (h : HostId) (bytes : List Byte)
  /-- LOOKUP (R19). -/
  | lookup (h : HostId) (bytes : List Byte)
  /-- LIST_HELD (R21). -/
  | listHeld (h : HostId) (bytes : List Byte)
  /-- POOL_STATUS (R80). -/
  | poolStatus (h : HostId) (bytes : List Byte)
  /-- LINE_STATUS (R103). -/
  | lineStatus (h : HostId) (bytes : List Byte)
  /-- READ_FRAME (R111). -/
  | readFrame (h : HostId) (bytes : List Byte)
  /-- ACK_FRAME (R112). -/
  | ackFrame (h : HostId) (bytes : List Byte)
  /-- QUEUE_STATUS (R114). -/
  | queueStatus (h : HostId) (bytes : List Byte)
  /-- DOZE (R124). -/
  | doze (h : HostId) (bytes : List Byte)
  /-- SLEEP (R125). -/
  | sleep (h : HostId) (bytes : List Byte)
  /-- RESUME (R133). -/
  | resume (h : HostId) (bytes : List Byte)
  /-- READ_WAKE (R138). -/
  | readWake (h : HostId) (bytes : List Byte)
  /-- SET_HOST_PARAMS (R139). -/
  | setHostParams (h : HostId) (bytes : List Byte)
  /-- SUBMIT (R143). -/
  | submit (h : HostId) (bytes : List Byte)
  /-- READ_COMPLETIONS (R153). -/
  | readCompletions (h : HostId) (bytes : List Byte)
  /-- READ_CONFIG (R159). -/
  | readConfig (h : HostId) (bytes : List Byte)
  /-- PROPOSE (R161). -/
  | propose (h : HostId) (bytes : List Byte)
  /-- ENDORSE (R163). -/
  | endorse (h : HostId) (bytes : List Byte)
  /-- DECLINE (R164). -/
  | decline (h : HostId) (bytes : List Byte)
  /-- WITHDRAW (R165). -/
  | withdraw (h : HostId) (bytes : List Byte)
  /-- UNKNOWN_COMMAND (R173). -/
  | unknownCommand (h : HostId) (code : Byte) (bytes : List Byte)
  /-- SELECT_ASSERTED (R171). -/
  | selectAsserted (h : HostId)
  /-- SELECT_RELEASED (R176). -/
  | selectReleased (h : HostId)
  /-- PORT_RESET (R177). -/
  | portReset (h : HostId)
  /-- PORT_RESET_RELEASE (R177). -/
  | portResetRelease (h : HostId)
  /-- DEVICE_RESET (R181). -/
  | deviceReset (cause : ResetCause)
  /-- RESET_END (R181). -/
  | resetEnd
  /-- TICK (R49). -/
  | tick
  /-- PROBE_WINDOW_EXPIRY (R25). -/
  | probeWindowExpiry (i : Index)
  /-- STAGE_HOLD_EXPIRY (R27). -/
  | stageHoldExpiry (i : Index)
  /-- OFFER_EXPIRY (R42). -/
  | offerExpiry (i : Index)
  /-- LEASE_RUN_OUT (R56). -/
  | leaseRunOut (i : Index)
  /-- GRACE_EXPIRY (R60). -/
  | graceExpiry (i : Index)
  /-- DOZE_DELAY_EXPIRY (R115). -/
  | dozeDelayExpiry (h : HostId)
  /-- ALARM_EXPIRY (R126). -/
  | alarmExpiry (h : HostId)
  /-- ATTEMPT_EXPIRY (R129). -/
  | attemptExpiry (h : HostId)
  /-- REST_EXPIRY (R130). -/
  | restExpiry (h : HostId)
  /-- ACCORD_WINDOW_EXPIRY (R166). -/
  | accordWindowExpiry
  /-- LINE_UP_EVENT (R82). -/
  | lineUpEvent
  /-- LINE_DOWN_EVENT (R82). -/
  | lineDownEvent
  /-- FRAME_START (R86). -/
  | frameStart
  /-- RECEPTION_CELL_NEED (R72). -/
  | receptionCellNeed (b : Byte)
  /-- WIRE_FRAME_END (R88). -/
  | wireFrameEnd
  /-- GRANT (R145). -/
  | grant
  /-- SEND_COMPLETION (R149). -/
  | sendCompletion
  /-- WHOLE_BYTE_RECEIVED (R87). -/
  | wholeByteReceived (b : Byte)
  /-- RECEIVE_ERROR_MARKED (R87). -/
  | receiveErrorMarked
deriving DecidableEq, Repr

end Sys2Proof
end

