-- ==== Sys2Proof/Decode.lean ====
section
/-! DEFINITION. Decoding by the bits of spec/opcode_table.json. No row of that table gives bits (every row's "fields"
is empty and no row has "fixed"), so no word spells a command. A request's own bytes are read by the host port
(Sys2Proof/Machine/Framing.lean and Transactions.lean). -/

namespace Sys2Proof

/-- The command that a word of `nbits` bits spells by the table's bits: none, since no row gives bits. -/
def decodeTableWord (_nbits _w : Nat) : Option Instr := none

end Sys2Proof
end

