-- ==== Sys2Proof/Machine/Framing.lean ====
section
/-! DEFINITION. The framing of requests and responses (R171 to R175, R186, sections 11.1 to 11.3): numbers sent
most significant byte first, check bytes, the command codes with the parameter length each admits, the status
codes, and the event at which a request is complete. -/

namespace Sys2Proof.Machine

/-! ### Numbers as bytes -/

/-- A number as one byte. -/
def byte (n : Nat) : Byte := BitVec.ofNat 8 n

/-- A 16-bit number, most significant byte first (chapter 11, opening). -/
def word16Bytes (w : Word16) : List Byte := [w.extractLsb' 8 8, w.extractLsb' 0 8]

/-- A 32-bit number, most significant byte first. -/
def word32Bytes (w : Word32) : List Byte :=
  [w.extractLsb' 24 8, w.extractLsb' 16 8, w.extractLsb' 8 8, w.extractLsb' 0 8]

/-- A count sent in two bytes. -/
def nat16Bytes (n : Nat) : List Byte := word16Bytes (BitVec.ofNat 16 n)

/-- A count sent in four bytes. -/
def nat32Bytes (n : Nat) : List Byte := word32Bytes (BitVec.ofNat 32 n)

/-- A station address as its six octets, first octet first. -/
def addressBytes (a : Address) : List Byte :=
  [a.extractLsb' 40 8, a.extractLsb' 32 8, a.extractLsb' 24 8, a.extractLsb' 16 8, a.extractLsb' 8 8,
    a.extractLsb' 0 8]

/-- The byte at place `k` of a list, counted from 0; 0 past its end. -/
def byteAt (l : List Byte) (k : Nat) : Byte := l.getD k 0

/-- The 16-bit number whose most significant byte stands at place `k`. -/
def word16At (l : List Byte) (k : Nat) : Word16 := byteAt l k ++ byteAt l (k + 1)

/-- The station address whose first octet stands at place `k`. -/
def addressAt (l : List Byte) (k : Nat) : Address :=
  byteAt l k ++ byteAt l (k + 1) ++ byteAt l (k + 2) ++ byteAt l (k + 3) ++ byteAt l (k + 4) ++ byteAt l (k + 5)

/-- The sum of the bytes modulo 256 (R173, R175). -/
def byteSum (l : List Byte) : Byte := l.foldl (· + ·) 0

/-- The check byte that makes the sum of all bytes 0 modulo 256 (R173, R175). -/
def checkByte (l : List Byte) : Byte := 0 - byteSum l

/-! ### Commands -/

/-- The commands that a command code names (section 11.3). -/
inductive Command where
  | attach | detach | identify | readNotices | setNoticeMask | readCounters | clearCounters | readTick
  | stage | bind | yield | setAction | join | leave | offer | accept | refuse | retract | renew | lookup | listHeld
  | poolStatus | lineStatus
  | readFrame | ackFrame | queueStatus
  | doze | sleep | resume | readWake | setHostParams
  | submit | readCompletions
  | readConfig | propose | endorse | decline | withdraw
deriving DecidableEq, Repr

/-- The commands in the order of the table of section 11.3. -/
def Command.all : List Command :=
  [.attach, .detach, .identify, .readNotices, .setNoticeMask, .readCounters, .clearCounters, .readTick,
    .stage, .bind, .yield, .setAction, .join, .leave, .offer, .accept, .refuse, .retract, .renew, .lookup, .listHeld,
    .poolStatus, .lineStatus, .readFrame, .ackFrame, .queueStatus, .doze, .sleep, .resume, .readWake,
    .setHostParams, .submit, .readCompletions, .readConfig, .propose, .endorse, .decline, .withdraw]

/-- The command code (section 11.3). -/
def Command.code : Command → Byte
  | .attach => 0x01 | .detach => 0x02 | .identify => 0x03 | .readNotices => 0x04
  | .setNoticeMask => 0x05 | .readCounters => 0x06 | .clearCounters => 0x07 | .readTick => 0x08
  | .stage => 0x10 | .bind => 0x11 | .yield => 0x12 | .setAction => 0x13 | .join => 0x14 | .leave => 0x15
  | .offer => 0x16 | .accept => 0x17 | .refuse => 0x18 | .retract => 0x19 | .renew => 0x1A | .lookup => 0x1B
  | .listHeld => 0x1C | .poolStatus => 0x20 | .lineStatus => 0x21
  | .readFrame => 0x30 | .ackFrame => 0x31 | .queueStatus => 0x32
  | .doze => 0x38 | .sleep => 0x39 | .resume => 0x3A | .readWake => 0x3B | .setHostParams => 0x3C
  | .submit => 0x40 | .readCompletions => 0x41
  | .readConfig => 0x50 | .propose => 0x51 | .endorse => 0x52 | .decline => 0x53 | .withdraw => 0x54

/-- The command a code names, if it names one. -/
def Command.ofCode (b : Byte) : Option Command := Command.all.find? (fun c => c.code == b)

/-- Whether a command admits a parameter length (section 11.3): one length each, but SUBMIT admits 0 to 1,530. -/
def Command.admitsLength (c : Command) (n : Nat) : Bool :=
  match c with
  | .setNoticeMask => n == 2
  | .stage => n == 10
  | .bind | .yield | .accept | .refuse | .retract | .renew => n == 3
  | .setAction | .offer => n == 4
  | .join | .leave => n == 6
  | .lookup => n == 7
  | .ackFrame => n == 2
  | .sleep => n == 3
  | .setHostParams => n == 7
  | .submit => decide (n ≤ Config.maxParameters)
  | .propose => n == 22
  | .endorse | .decline | .withdraw => n == 2
  | _ => n == 0

/-! ### Status codes -/

/-- The status of a response (section 11.2). -/
inductive Status where
  | ok | check | format | unknownCommand | notAttached | alreadyAttached | asleep | wrongState | badValue
  | noEntry | alreadyYours | stagedElsewhere | addressHeld | limitReached | tableFull | notProbed
  | conflicted | offerPending | noOffer | notMember | alreadyMember | sourceNotHeld
  | selfDestined | txQueueFull | noHandle | noCells | queueEmpty | notHead
  | accordBusy | stale | noProposal | notVoter | alreadyVoted
deriving DecidableEq, Repr

/-- The status code (section 11.2). -/
def Status.code : Status → Byte
  | .ok => 0x00 | .check => 0x01 | .format => 0x02 | .unknownCommand => 0x03 | .notAttached => 0x04
  | .alreadyAttached => 0x05 | .asleep => 0x06 | .wrongState => 0x07 | .badValue => 0x08 | .noEntry => 0x09
  | .alreadyYours => 0x0A | .stagedElsewhere => 0x0B | .addressHeld => 0x0C | .limitReached => 0x0D
  | .tableFull => 0x0E | .notProbed => 0x0F | .conflicted => 0x10 | .offerPending => 0x11 | .noOffer => 0x12
  | .notMember => 0x13 | .alreadyMember => 0x14 | .sourceNotHeld => 0x15 | .selfDestined => 0x16
  | .txQueueFull => 0x17 | .noHandle => 0x18 | .noCells => 0x19 | .queueEmpty => 0x1A | .notHead => 0x1B
  | .accordBusy => 0x1C | .stale => 0x1D | .noProposal => 0x1E | .notVoter => 0x1F | .alreadyVoted => 0x20

/-- What a request comes to: the status and the payload of its response. -/
structure Reply where
  status : Status
  payload : List Byte
deriving DecidableEq, Repr

/-! ### Whole requests and responses -/

/-- How many bytes of a transaction make the request that is taken (R172): none while the request is not complete,
the five header bytes where the parameter length is above 1,530, and otherwise the parameter length plus six. -/
def requestEnd (bytes : List Byte) : Option Nat :=
  if bytes.length < 5 then none
  else
    let p := (word16At bytes 3).toNat
    if Config.maxParameters < p then some 5
    else if bytes.length < p + 6 then none
    else some (p + 6)

/-- The tag of a request, its bytes 2 and 3. -/
def requestTag (req : List Byte) : Word16 := word16At req 1

/-- The parameter length a request's header states. -/
def requestLength (req : List Byte) : Nat := (word16At req 3).toNat

/-- The parameters of a request taken whole: its bytes 6 to 5 + p. -/
def requestParams (req : List Byte) : List Byte := (req.drop 5).take (requestLength req)

/-- The bytes after the command code of a request with this code, tag and parameters (R186): tag, parameter length,
parameters, and the check byte. -/
def requestBytes (code : Byte) (tag : Word16) (params : List Byte) : List Byte :=
  let body := word16Bytes tag ++ nat16Bytes params.length ++ params
  body ++ [checkByte (code :: body)]

/-- A response (R175, R186): status, tag as received, payload length, payload, check byte. -/
def responseBytes (tag : Word16) (r : Reply) : List Byte :=
  let body := r.status.code :: (word16Bytes tag ++ nat16Bytes r.payload.length ++ r.payload)
  body ++ [checkByte body]

end Sys2Proof.Machine
end

