-- ==== Sys2Proof/Machine/State.lean ====
section
/-! DEFINITION. The state of the ES-464, block by block (00_scope, "Block overview"), as plain data; its value after
device reset; the reasons a step can stop. A timer that holds 0 has reached 0 at a tick event and waits for its
expiry to be taken (notes/assumptions/4). -/

namespace Sys2Proof.Machine

/-! ### Station Table -/

/-- An entry named by index and generation, as a notice, a descriptor or a wake cause record names it (R9). -/
structure EntryRef where
  index : Index
  generation : Word16
deriving DecidableEq, Repr

/-- The states of an entry other than FREE (R1). -/
inductive ClaimState where
  | probing | probed | conflicted | live | lapsing
deriving DecidableEq, Repr

/-- What the part does with frames for a claim whose owner sleeps (R1). -/
inductive SleepAction where
  | wake | hold | drop
deriving DecidableEq, Repr

/-- The lease modes (R1). -/
inductive LeaseMode where
  | pinned | fixed | activity
deriving DecidableEq, Repr

/-- A pending offer: its target and its remaining count, 0 to 255 (R1). -/
structure Offer where
  target : HostId
  remaining : Nat
deriving DecidableEq, Repr

/-- The fields of a UNICAST entry that is not FREE (R1). A field that R1 makes absent is `none`. -/
structure Claim where
  address : Address
  owner : HostId
  state : ClaimState
  action : SleepAction
  mode : LeaseMode
  /-- lease reload, 1 to 65,535; present with lease mode FIXED or ACTIVITY -/
  reload : Option Nat
  /-- stage timer, 0 to 255; present in PROBING, PROBED, CONFLICTED -/
  stageTimer : Option Nat
  /-- lease remaining, 0 to 65,535; present in LIVE with lease mode FIXED or ACTIVITY -/
  leaseRemaining : Option Nat
  /-- present in LIVE with lease mode ACTIVITY -/
  activitySeen : Option Bool
  /-- grace remaining, 0 to 255; present in LAPSING -/
  graceRemaining : Option Nat
  /-- optional in LIVE and LAPSING -/
  offer : Option Offer
  /-- a counter -/
  hits : Nat
  /-- collision count, 0 to 255; present in LIVE and LAPSING -/
  collisions : Option Nat
deriving DecidableEq, Repr

/-- The fields of a GROUP entry that is not FREE, which is always LIVE (R2). -/
structure Group where
  address : Address
  members : PerHost Bool
  hits : Nat
deriving DecidableEq, Repr

/-- FREE, or the kind of a used entry with its fields (R1, R2). -/
inductive EntryUse where
  | free
  | unicast (c : Claim)
  | group (g : Group)
deriving DecidableEq, Repr

/-- One of the 64 entry records; its index is its place in the table (R1). -/
structure Entry where
  generation : Word16
  use : EntryUse
deriving DecidableEq, Repr

/-! ### Configuration record -/

/-- The four tick periods (R49). -/
inductive TickPeriod where
  | ms1 | ms10 | ms100 | s1
deriving DecidableEq, Repr

/-- The unknown-unicast policy; the default host is present exactly with DEFAULT_HOST (R97, R158). -/
inductive UnknownPolicy where
  | discard
  | defaultHost (h : HostId)
deriving DecidableEq, Repr

/-- The configuration record (R158). -/
structure ConfigRecord where
  tickPeriod : TickPeriod
  probeWindow : Nat
  stageHold : Nat
  lapseGrace : Nat
  accordWindow : Nat
  unknown : UnknownPolicy
  lineEnable : Bool
  entryLimit : PerHost Nat
  cellQuota : PerHost Nat
deriving DecidableEq, Repr

/-- A voter's vote (R160). -/
inductive Vote where
  | outstanding | endorsed
deriving DecidableEq, Repr

/-- A pending proposal (R160). A host that is not a voter has no vote. -/
structure Proposal where
  proposer : HostId
  serial : Word16
  base : Word16
  record : ConfigRecord
  votes : PerHost (Option Vote)
  window : Nat
deriving DecidableEq, Repr

/-- The Accord Unit (R158, R160). -/
structure Accord where
  config : ConfigRecord
  generation : Word16
  lastSerial : Word16
  proposal : Option Proposal
deriving DecidableEq, Repr

/-! ### Frame Pool -/

/-- A cell number, and the handle of a frame record (R65, R67). -/
abbrev CellId := Fin Config.cellCount
abbrev Handle := Fin Config.recordCount

/-- Where a stored frame came from (R67). -/
inductive Origin where
  | line
  | host (h : HostId)
deriving DecidableEq, Repr

/-- The classes of a frame delivered to a host (R67). -/
inductive FrameClass where
  | unicastMatch | groupMatch | broadcast | default | localSwitch
deriving DecidableEq, Repr

/-- An allocated frame record (R67). -/
structure FrameRecord where
  origin : Origin
  stamp : Word16
  chain : List CellId
  /-- present while the Line Interface is receiving into the record -/
  exhausted : Option Bool
  length : Option Nat
  cls : Option FrameClass
  matched : Option EntryRef
  refs : Nat
deriving DecidableEq, Repr

/-- The Frame Pool: the 49,152 bytes of the cells (byte `k` of cell `c` at address `128 * c + k`, listed in
canonical form), the records (a free one is `none`), and the two free lists (R65, R67, R68). -/
structure Pool where
  store : List Host.Cell
  records : Vector (Option FrameRecord) Config.recordCount
  freeCells : List CellId
  freeRecords : List Handle
deriving DecidableEq, Repr

/-! ### Line Interface -/

/-- The mode of a reception, with the record being received into (R85). -/
inductive ReceptionMode where
  | storing (r : Handle)
  | ignoring
deriving DecidableEq, Repr

/-- A reception (R85), with the receiver's running frame check (R87): `check` has taken in every byte but those of
`recent`, the last bytes received, at most four, which may prove to be the frame check. -/
structure Reception where
  mode : ReceptionMode
  received : Nat
  errorSeen : Bool
  recent : List Byte
  check : Word32
deriving DecidableEq, Repr

/-- The device counters (R102, R149). -/
structure DeviceCounters where
  lineGood : Nat
  runt : Nat
  giant : Nat
  badCheck : Nat
  lineLost : Nat
  lineDisabled : Nat
  noHandle : Nat
  noCells : Nat
  unknownDiscarded : Nat
  groupUnmatched : Nat
  noTaker : Nat
  txSent : Nat
deriving DecidableEq, Repr

/-- The Line Interface: the line state, the level of the PHY's link indication, the last line change, the receiver
(IDLE without a reception) and the device counters (R82, R85, R102). The transmitter is SENDING exactly while the
transmit path is BUSY (R142), so it is `Arbiter.path`. -/
structure Line where
  up : Bool
  link : Bool
  lastChange : Option Word16
  reception : Option Reception
  counters : DeviceCounters
deriving DecidableEq, Repr

/-! ### Host Contexts -/

/-- The reachability states (R120). -/
inductive Reach where
  | detached | awake | dozing | asleep | waking | wakeRest | stranded
deriving DecidableEq, Repr

/-- The sleep depths (R120). -/
inductive SleepDepth where
  | light | deep
deriving DecidableEq, Repr

/-- The causes of a wake (R137). -/
inductive WakeCause where
  | self | frame | holdFull | alarm
deriving DecidableEq, Repr

/-- The wake cause record (R137). -/
structure WakeRecord where
  cause : Option WakeCause
  entry : Option EntryRef
  startStamp : Option Word16
  attemptsUsed : Nat
  stranded : Bool
  heldAtResume : Option Nat
  dropped : Nat
deriving DecidableEq, Repr

/-- The group-while-asleep setting (R117). -/
inductive GroupAsleep where
  | hold | drop
deriving DecidableEq, Repr

/-- The seven per-host parameters (R139). -/
structure HostParams where
  dozeThreshold : Nat
  dozeDelay : Nat
  lightWindow : Nat
  deepWindow : Nat
  wakeAttempts : Nat
  groupAsleep : GroupAsleep
  holdFullWakes : Bool
deriving DecidableEq, Repr

/-- The per-host counters (R118, R127, R131, R143, R144). -/
structure HostCounters where
  delivered : Nat
  held : Nat
  dropQueueFull : Nat
  dropHoldFull : Nat
  dropQuota : Nat
  dropAsleep : Nat
  dropStranded : Nat
  submitted : Nat
  txRefused : Nat
  wakes : Nat
  strandings : Nat
deriving DecidableEq, Repr

/-- A receive queue position (R109). -/
structure RxPosition where
  handle : Handle
  stamp : Word16
  held : Bool
deriving DecidableEq, Repr

/-- A hold list position (R109). -/
structure HoldPosition where
  handle : Handle
  stamp : Word16
deriving DecidableEq, Repr

/-- How an offer ended (R45). -/
inductive OfferOutcome where
  | accepted | refused | withdrawn | lapsed
deriving DecidableEq, Repr

/-- How a proposal ended (R169). -/
inductive AccordOutcome where
  | applied | declined | lapsed | withdrawn
deriving DecidableEq, Repr

/-- The thirteen notice kinds, each with its entry and detail (R182, R45, R63, R13, R83, R169). -/
inductive Report where
  | stageProbed (e : EntryRef)
  | stageConflict (e : EntryRef) (left : ClaimState)
  | stageLapsed (e : EntryRef) (left : ClaimState)
  | leaseLapsing (e : EntryRef) (grace : Nat)
  | leaseEnded (e : EntryRef) (left : ClaimState)
  | addressCollision (e : EntryRef) (count : Nat)
  | offerReceived (e : EntryRef) (offering : HostId)
  | offerResolved (e : EntryRef) (outcome : OfferOutcome) (other : HostId) (offered : Word16)
  | accordRequest (proposer : HostId) (serial : Word16)
  | accordOutcome (outcome : AccordOutcome) (serial : Word16) (declining : Option HostId)
  | configApplied (generation : Word16)
  | lineUp
  | lineDown
deriving DecidableEq, Repr

/-- A notice record (R182). -/
structure Notice where
  report : Report
  stamp : Word16
deriving DecidableEq, Repr

/-- A Host Context (R120, R110, R115, R118, R182, R184). The notice mask is kept while the host is attached. -/
structure HostCtx where
  reach : Reach
  depth : Option SleepDepth
  alarm : Option Nat
  attempt : Option Nat
  attemptTimer : Option Nat
  restTimer : Option Nat
  wake : Option WakeRecord
  params : HostParams
  rxQueue : List RxPosition
  holdList : List HoldPosition
  charge : Nat
  dozeTimer : Option Nat
  delayReached : Bool
  notices : List Notice
  lost : Nat
  mask : Option Word16
  counters : HostCounters
deriving DecidableEq, Repr

/-! ### Transmit Arbiter -/

/-- A transmit queue position (R142). -/
structure TxPosition where
  handle : Handle
  sequence : Word16
deriving DecidableEq, Repr

/-- The outcomes of a submitted frame (R152). -/
inductive TxOutcome where
  | sent | localSwitch | selfDestined | lineDown | lineDisabled | lineLost
deriving DecidableEq, Repr

/-- A completion record (R152). -/
structure Completion where
  sequence : Word16
  outcome : TxOutcome
  delivered : Nat
deriving DecidableEq, Repr

/-- The frame on the path (R142). -/
structure OnPath where
  handle : Handle
  sender : HostId
  sequence : Word16
  delivered : Nat
  discard : Bool
deriving DecidableEq, Repr

/-- The Transmit Arbiter's state for one host; the next sequence number is kept while the host is attached (R142). -/
structure TxHost where
  queue : List TxPosition
  ring : List Completion
  nextSequence : Option Word16
deriving DecidableEq, Repr

/-- The Transmit Arbiter (R142); the path is IDLE without a frame on it. -/
structure Arbiter where
  hosts : PerHost TxHost
  path : Option OnPath
  lastGranted : HostId
deriving DecidableEq, Repr

/-! ### Host Port Controllers -/

/-- The transaction phase (R171). -/
inductive Phase where
  | idle | request | response
deriving DecidableEq, Repr

/-- The causes of a detach (R179). -/
inductive DetachCause where
  | command | portReset
deriving DecidableEq, Repr

/-- A Host Port Controller: phase, request buffer, response buffer, how many response bytes have been shifted out
(R171, R175), the level of the port reset input (R177), and the port's last detach cause (R179, R180). -/
structure Port where
  phase : Phase
  request : List Byte
  response : List Byte
  shifted : Nat
  held : Bool
  lastDetach : Option DetachCause
deriving DecidableEq, Repr

/-! ### Tick Unit -/

/-- The Tick Unit: the tick count and the period of the running interval (R49, R51). -/
structure TickUnit where
  count : Word32
  period : TickPeriod
deriving DecidableEq, Repr

/-! ### The whole part -/

/-- The state of the part, and the queue of commands that wait, first in, first out. `resetting` holds the kind of a
device reset that has begun and not ended (R181). -/
structure State where
  resetting : Option ResetCause
  resetCause : ResetCause
  table : Vector Entry Config.tableSize
  tick : TickUnit
  pool : Pool
  line : Line
  hosts : PerHost HostCtx
  arbiter : Arbiter
  accord : Accord
  ports : PerHost Port
  pending : List Instr
deriving DecidableEq, Repr

/-! ### Values after device reset -/

/-- A FREE entry as device reset leaves it (R22). -/
def Entry.reset : Entry := { generation := 0, use := .free }

/-- The initial configuration record (R158). -/
def ConfigRecord.initial : ConfigRecord where
  tickPeriod := .ms100
  probeWindow := 20
  stageHold := 50
  lapseGrace := 30
  accordWindow := 100
  unknown := .discard
  lineEnable := true
  entryLimit := .same 16
  cellQuota := .same 96

/-- The Accord Unit after device reset (R158, R160). -/
def Accord.reset : Accord := { config := .initial, generation := 0, lastSerial := 0, proposal := none }

/-- The Frame Pool after device reset (R81). The store's bytes read 0 (notes/assumptions/2). -/
def Pool.reset : Pool where
  store := []
  records := Vector.replicate Config.recordCount none
  freeCells := List.finRange Config.cellCount
  freeRecords := List.finRange Config.recordCount

/-- Every device counter at 0 (R102). -/
def DeviceCounters.zero : DeviceCounters :=
  { lineGood := 0, runt := 0, giant := 0, badCheck := 0, lineLost := 0, lineDisabled := 0, noHandle := 0,
    noCells := 0, unknownDiscarded := 0, groupUnmatched := 0, noTaker := 0, txSent := 0 }

/-- The Line Interface after device reset with the link indication at `link` (R82, R104). -/
def Line.reset (link : Bool) : Line :=
  { up := false, link := link, lastChange := none, reception := none, counters := .zero }

/-- Every per-host counter at 0 (R118). -/
def HostCounters.zero : HostCounters :=
  { delivered := 0, held := 0, dropQueueFull := 0, dropHoldFull := 0, dropQuota := 0, dropAsleep := 0,
    dropStranded := 0, submitted := 0, txRefused := 0, wakes := 0, strandings := 0 }

/-- The per-host parameters an ATTACH sets (R123). -/
def HostParams.initial : HostParams where
  dozeThreshold := 8
  dozeDelay := 10
  lightWindow := 5
  deepWindow := 30
  wakeAttempts := 3
  groupAsleep := .hold
  holdFullWakes := false

/-- A DETACHED host after device reset (R119, R141, R179). Its parameters are not in force (notes/assumptions/3). -/
def HostCtx.reset : HostCtx where
  reach := .detached
  depth := none
  alarm := none
  attempt := none
  attemptTimer := none
  restTimer := none
  wake := none
  params := .initial
  rxQueue := []
  holdList := []
  charge := 0
  dozeTimer := none
  delayReached := false
  notices := []
  lost := 0
  mask := none
  counters := .zero

/-- The Transmit Arbiter after device reset (R142). -/
def Arbiter.reset : Arbiter where
  hosts := .same { queue := [], ring := [], nextSequence := none }
  path := none
  lastGranted := .h3

/-- A Host Port Controller after device reset, with its port reset input at `held` (R171, R181). -/
def Port.reset (held : Bool) : Port :=
  { phase := .idle, request := [], response := [], shifted := 0, held := held, lastDetach := none }

/-- The Tick Unit after device reset (R49). -/
def TickUnit.reset : TickUnit := { count := 0, period := .ms100 }

/-- The part right after a power-on reset, with no link, no port reset input asserted and no command waiting. -/
def State.reset : State where
  resetting := none
  resetCause := .powerOn
  table := Vector.replicate Config.tableSize Entry.reset
  tick := .reset
  pool := .reset
  line := .reset false
  hosts := .same .reset
  arbiter := .reset
  accord := .reset
  ports := .same (.reset false)
  pending := []

/-! ### Reasons to stop -/

/-- Why a step of the part could fault: never. Every command and event of the table has the effect its rule gives,
or none where its rule says that it does not take place, so no constructor is needed. -/
inductive Fault where
deriving DecidableEq, Repr

/-- Why a step could be refused. -/
inductive Refusal where
  /-- Raised by an arm of `exec` for a command that has no meaning yet; no arm raises it now. Safe: the model stops. -/
  | notModelled (mnemonic : String)
deriving DecidableEq, Repr

end Sys2Proof.Machine
end

