-- ==== Sys2Proof/Machine/Ops.lean ====
section
/-! DEFINITION. The named operations over the state: reading and replacing a host's context, an entry, a port or a
record; the store's bytes; the free lists and references of the Frame Pool; notices; the counters; the searches of
the station table. -/

namespace Sys2Proof.Machine

/-! ### Counters and timers -/

/-- A counter raised by one, stopping at 4,294,967,295 (00_scope, "Numbers and quantities"). -/
def bump (n : Nat) : Nat := if n < Config.counterMax then n + 1 else n

/-- A small count raised by one, stopping at 255 (R13, R182). -/
def bumpSmall (n : Nat) : Nat := if n < Config.smallCountMax then n + 1 else n

/-- A timer at a tick event: a running one is lowered by one, and one at 0 waits for its expiry (R53). -/
def lowerTimer (t : Option Nat) : Option Nat := t.map (· - 1)

/-! ### The places of the state -/

/-- The context of host `h`. -/
def State.host (s : State) (h : HostId) : HostCtx := s.hosts.get h

/-- `s` with the context of host `h` replaced. -/
def State.setHost (s : State) (h : HostId) (c : HostCtx) : State := { s with hosts := s.hosts.set h c }

/-- The transmit queue, completion ring and next sequence number of host `h`. -/
def State.tx (s : State) (h : HostId) : TxHost := s.arbiter.hosts.get h

/-- `s` with the Transmit Arbiter's state for host `h` replaced. -/
def State.setTx (s : State) (h : HostId) (t : TxHost) : State :=
  { s with arbiter := { s.arbiter with hosts := s.arbiter.hosts.set h t } }

/-- `s` with the transmit path replaced. -/
def State.setPath (s : State) (p : Option OnPath) : State := { s with arbiter := { s.arbiter with path := p } }

/-- The port of host `h`. -/
def State.port (s : State) (h : HostId) : Port := s.ports.get h

/-- `s` with the port of host `h` replaced. -/
def State.setPort (s : State) (h : HostId) (p : Port) : State := { s with ports := s.ports.set h p }

/-- Entry `i` of the station table. -/
def State.entry (s : State) (i : Index) : Entry := s.table[i]

/-- `s` with entry `i` replaced. -/
def State.setEntry (s : State) (i : Index) (e : Entry) : State := { s with table := s.table.set i e }

/-- `s` with entry `i` a UNICAST entry holding `c`, its generation kept. -/
def State.setClaim (s : State) (i : Index) (c : Claim) : State :=
  s.setEntry i { s.entry i with use := .unicast c }

/-- `s` with entry `i` a GROUP entry holding `g`, its generation kept. -/
def State.setGroup (s : State) (i : Index) (g : Group) : State :=
  s.setEntry i { s.entry i with use := .group g }

/-- `s` with entry `i` FREE, its generation kept (R9). -/
def State.freeEntry (s : State) (i : Index) : State := s.setEntry i { s.entry i with use := .free }

/-- Entry `i` named by its index and the generation in force (R9). -/
def State.entryRef (s : State) (i : Index) : EntryRef := { index := i, generation := (s.entry i).generation }

/-- Frame record `r`, when it is allocated. -/
def State.record (s : State) (r : Handle) : Option FrameRecord := s.pool.records[r]

/-- `s` with frame record `r` replaced. -/
def State.setRecord (s : State) (r : Handle) (rec : Option FrameRecord) : State :=
  { s with pool := { s.pool with records := s.pool.records.set r rec } }

/-- `s` with a reception, or the receiver IDLE. -/
def State.setReception (s : State) (r : Option Reception) : State := { s with line := { s.line with reception := r } }

/-- `s` with the device counters changed. -/
def State.countDevice (s : State) (f : DeviceCounters → DeviceCounters) : State :=
  { s with line := { s.line with counters := f s.line.counters } }

/-- `s` with the per-host counters of `h` changed. -/
def State.countHost (s : State) (h : HostId) (f : HostCounters → HostCounters) : State :=
  s.setHost h { s.host h with counters := f (s.host h).counters }

/-! ### Conditions of a host -/

/-- A host is attached in every reachability state but DETACHED (00_scope, "Attached"). -/
def HostCtx.attached (c : HostCtx) : Bool := c.reach ≠ .detached

/-- A host is asleep in ASLEEP, WAKING, WAKE_REST and STRANDED (R120). -/
def Reach.isAsleep : Reach → Bool
  | .asleep | .waking | .wakeRest | .stranded => true
  | .detached | .awake | .dozing => false

/-- Host `h` is attached. -/
def State.attached (s : State) (h : HostId) : Bool := (s.host h).attached

/-- Host `h` is in ASLEEP, WAKING, WAKE_REST or STRANDED (R122). -/
def State.asleep (s : State) (h : HostId) : Bool := (s.host h).reach.isAsleep

/-- The stamp of an event: the low 16 bits of the tick count (R51). -/
def State.stamp (s : State) : Word16 := s.tick.count.setWidth 16

/-! ### Notices (R182) -/

/-- A notice raised for a host's context: appended, or lost when the list holds 16 records. -/
def HostCtx.addNotice (c : HostCtx) (n : Notice) : HostCtx :=
  if c.notices.length < Config.noticeListSize then { c with notices := c.notices ++ [n] }
  else { c with lost := bumpSmall c.lost }

/-- A notice raised for host `h` at this event; none is raised for a DETACHED host. -/
def State.notify (s : State) (h : HostId) (r : Report) : State :=
  if s.attached h then s.setHost h ((s.host h).addNotice { report := r, stamp := s.stamp }) else s

/-- A notice raised for each of some hosts. -/
def State.notifyAll (s : State) (hs : List HostId) (r : Report) : State :=
  hs.foldl (fun s h => s.notify h r) s

/-! ### The store's bytes -/

/-- The byte at an address of the store; an unlisted address reads 0 (notes/assumptions/2). -/
def storeRead : List Host.Cell → Nat → Byte
  | [], _ => 0
  | (k, v) :: m, a => if a = k then v else storeRead m a

/-- The store with the byte at an address replaced, in canonical form. -/
def storeWrite : List Host.Cell → Nat → Byte → List Host.Cell
  | [], a, b => if b = 0 then [] else [(a, b)]
  | (k, v) :: m, a, b =>
    if a < k then (if b = 0 then (k, v) :: m else (a, b) :: (k, v) :: m)
    else if a = k then (if b = 0 then m else (a, b) :: m)
    else (k, v) :: storeWrite m a b

/-- The address in the store of byte `k` of cell `c`. -/
def cellAddress (c : CellId) (k : Nat) : Nat := Config.cellBytes * c.val + k

/-- Stored byte `k + 1` of the frame whose cells are `chain` (R66). -/
def chainByte (store : List Host.Cell) (chain : List CellId) (k : Nat) : Byte :=
  match chain[k / Config.cellBytes]? with
  | some c => storeRead store (cellAddress c (k % Config.cellBytes))
  | none => 0

/-- The first `n` stored bytes of the frame whose cells are `chain`. -/
def chainBytes (store : List Host.Cell) (chain : List CellId) (n : Nat) : List Byte :=
  (List.range n).map (chainByte store chain)

/-- The store after stored byte `k + 1` of the frame whose cells are `chain` is written. -/
def writeChainByte (store : List Host.Cell) (chain : List CellId) (k : Nat) (b : Byte) : List Host.Cell :=
  match chain[k / Config.cellBytes]? with
  | some c => storeWrite store (cellAddress c (k % Config.cellBytes)) b
  | none => store

/-- The store after the bytes of a frame are written from stored byte `k + 1` onward. -/
def writeChain (store : List Host.Cell) (chain : List CellId) : Nat → List Byte → List Host.Cell
  | _, [] => store
  | k, b :: bs => writeChain (writeChainByte store chain k b) chain (k + 1) bs

/-- The cells a frame of stored length `n` occupies: ceil(n / 128) (R66). -/
def cellsFor (n : Nat) : Nat := (n + (Config.cellBytes - 1)) / Config.cellBytes

/-! ### Records and references of the Frame Pool -/

/-- The cell count of a frame: the cells of its record's chain (R66). -/
def State.cellCount (s : State) (r : Handle) : Nat :=
  match s.record r with
  | some rec => rec.chain.length
  | none => 0

/-- The stored bytes of the frame of record `r`, over its length. -/
def State.frameBytes (s : State) (r : Handle) : List Byte :=
  match s.record r with
  | some rec => chainBytes s.pool.store rec.chain (rec.length.getD 0)
  | none => []

/-- Freeing a record (R71): its cells go to the tail of the free cell list in chain order, and the record to the tail
of the free record list. -/
def State.freeRecord (s : State) (r : Handle) (chain : List CellId) : State :=
  { s with pool :=
    { s.pool with
      records := s.pool.records.set r none
      freeCells := s.pool.freeCells ++ chain
      freeRecords := s.pool.freeRecords ++ [r] } }

/-- A reference on record `r` is taken (R69). -/
def State.takeRef (s : State) (r : Handle) : State :=
  match s.record r with
  | some rec => s.setRecord r (some { rec with refs := rec.refs + 1 })
  | none => s

/-- A reference on record `r` is dropped; at 0 the record is freed (R69, R71). -/
def State.dropRef (s : State) (r : Handle) : State :=
  match s.record r with
  | some rec =>
    if rec.refs ≤ 1 then s.freeRecord r rec.chain
    else s.setRecord r (some { rec with refs := rec.refs - 1 })
  | none => s

/-- One reference dropped on each of some records, in order. -/
def State.dropRefs (s : State) (rs : List Handle) : State := rs.foldl State.dropRef s

/-- The class and matched entry of a record are set (R67, R93, R146). -/
def State.setClass (s : State) (r : Handle) (cls : FrameClass) (matched : Option EntryRef) : State :=
  match s.record r with
  | some rec => s.setRecord r (some { rec with cls := some cls, matched := matched })
  | none => s

/-! ### Searches of the station table -/

/-- The address an entry holds, when it is not FREE (R1). -/
def Entry.address? (e : Entry) : Option Address :=
  match e.use with
  | .free => none
  | .unicast c => some c.address
  | .group g => some g.address

/-- The claim of a UNICAST entry. -/
def Entry.claim? (e : Entry) : Option Claim :=
  match e.use with
  | .unicast c => some c
  | _ => none

/-- The group of a GROUP entry. -/
def Entry.group? (e : Entry) : Option Group :=
  match e.use with
  | .group g => some g
  | _ => none

/-- Whether an entry is FREE. -/
def Entry.isFree (e : Entry) : Bool :=
  match e.use with
  | .free => true
  | _ => false

/-- The indices of the table in ascending order. -/
def Index.all : List Index := List.finRange Config.tableSize

/-- The lowest-indexed FREE entry (R8). -/
def State.lowestFree (s : State) : Option Index := Index.all.find? (fun i => (s.entry i).isFree)

/-- The entry that holds an address in any state but FREE (R3: at most one). -/
def State.holder (s : State) (a : Address) : Option Index :=
  Index.all.find? (fun i => (s.entry i).address? == some a)

/-- The UNICAST entry that holds an address, with its claim. -/
def State.claimAt (s : State) (a : Address) : Option (Index × Claim) :=
  match s.holder a with
  | some i => (s.entry i).claim?.map (fun c => (i, c))
  | none => none

/-- The GROUP entry that holds an address, with its group. -/
def State.groupAt (s : State) (a : Address) : Option (Index × Group) :=
  match s.holder a with
  | some i => (s.entry i).group?.map (fun g => (i, g))
  | none => none

/-- Whether a claim is in LIVE or LAPSING. -/
def Claim.bound (c : Claim) : Bool := c.state = .live || c.state = .lapsing

/-- A destination lookup of a unicast address (R11): the UNICAST entry in LIVE or LAPSING that holds it. -/
def State.boundAt (s : State) (a : Address) : Option (Index × Claim) :=
  (s.claimAt a).filter (fun x => x.2.bound)

/-- A holding lookup (R12): the UNICAST entry in LIVE or LAPSING that holds the address for host `h`. -/
def State.holding (s : State) (h : HostId) (a : Address) : Option (Index × Claim) :=
  (s.boundAt a).filter (fun x => x.2.owner = h)

/-- The claims of host `h`: UNICAST entries in any state but FREE whose owner is the host (R17, R46). -/
def State.ownedBy (s : State) (h : HostId) (i : Index) : Bool :=
  match (s.entry i).use with
  | .unicast c => c.owner = h
  | _ => false

/-- A host's holdings (R17). -/
def State.holdings (s : State) (h : HostId) : Nat := Index.all.countP (s.ownedBy h)

/-- The broadcast address (00_scope, "Station addresses"). -/
def broadcastAddress : Address := 0xFFFFFFFFFFFF

/-- The group indicator: the least significant bit of the first octet. -/
def isGroupAddress (a : Address) : Bool := a.getLsbD 40

end Sys2Proof.Machine
end

