-- ==== Sys2Proof/Machine/Flags.lean ====
section
/-! DEFINITION. The signals and conditions of the part that are computed from its state at every event and stored
nowhere else: receive readiness, the attention and wake lines, the transmitter's state, data out and the frame on the
wire; and the frame check. -/

namespace Sys2Proof.Machine

/-! ### Receive readiness and the sideband lines -/

/-- Receive readiness of a host (R116). -/
def HostCtx.ready (c : HostCtx) : Bool :=
  match c.reach with
  | .awake => !c.rxQueue.isEmpty
  | .dozing => c.params.dozeThreshold ≤ c.rxQueue.length || c.delayReached
  | .detached | .asleep | .waking | .wakeRest | .stranded => false

/-- The code of a notice kind, which is its bit of the notice mask (section 11.4). -/
def Report.kindCode : Report → Nat
  | .stageProbed .. => 0
  | .stageConflict .. => 1
  | .stageLapsed .. => 2
  | .leaseLapsing .. => 3
  | .leaseEnded .. => 4
  | .addressCollision .. => 5
  | .offerReceived .. => 6
  | .offerResolved .. => 7
  | .accordRequest .. => 8
  | .accordOutcome .. => 9
  | .configApplied .. => 10
  | .lineUp => 11
  | .lineDown => 12

/-- The bits of RX and TX in the notice mask (section 11.4). -/
def rxBit : Nat := 13
def txBit : Nat := 14

/-- The notice mask that holds every kind together with RX and TX (R178). -/
def fullMask : Word16 := 0x7FFF

/-- The attention line of host `h`: asserted or released (R184, R181). -/
def State.attention (s : State) (h : HostId) : Bool :=
  let c := s.host h
  let mask := c.mask.getD 0
  s.resetting.isNone && c.attached &&
    (c.notices.any (fun n => mask.getLsbD n.report.kindCode) ||
      (mask.getLsbD rxBit && c.ready) ||
      (mask.getLsbD txBit && !(s.tx h).ring.isEmpty))

/-- The wake line of host `h`: asserted exactly in WAKING, and released while a reset lasts (R128, R181). -/
def State.wakeLine (s : State) (h : HostId) : Bool := s.resetting.isNone && (s.host h).reach = .waking

/-- Whether the transmitter is SENDING: exactly while the transmit path is BUSY (R142, R148). -/
def State.sending (s : State) : Bool := s.arbiter.path.isSome

/-- The byte that data out carries for the next byte the host shifts in (R175, R177) (with no transaction DEDUCED,
notes/assumptions/19). -/
def Port.dataOut (p : Port) : Byte :=
  if p.held then Config.waitByte
  else
    match p.phase with
    | .response => p.response.getD p.shifted Config.waitByte
    | .idle | .request => Config.waitByte

/-! ### The frame check (R88) -/

/-- The generator polynomial below its term x^32. -/
def crcGenerator : Word32 := 0x04C11DB7

/-- The check register after one bit. The register's bit k is the coefficient of x^k of the running remainder. -/
def crcBit (r : Word32) (b : Bool) : Word32 :=
  let shifted := r <<< 1
  if r.msb != b then shifted ^^^ crcGenerator else shifted

/-- The check register after one byte, its bits taken from bit 0 to bit 7. -/
def crcByte (r : Word32) (b : Byte) : Word32 :=
  (List.range 8).foldl (fun r k => crcBit r (b.getLsbD k)) r

/-- The register before the first byte: ones, which complements the first 32 bits. -/
def crcStart : Word32 := 0xFFFFFFFF

/-- A byte whose bit k is the coefficient `f k`. -/
def byteOfBits (f : Nat → Bool) : Byte :=
  (List.range 8).foldl (fun b k => if f k then b ||| (1#8 <<< k) else b) 0

/-- The four check bytes of a check register: the complemented remainder, its coefficient of x^31 in bit 0 of the
first byte. -/
def crcBytes (r : Word32) : List Byte :=
  (List.range 4).map (fun i => byteOfBits (fun k => !r.getLsbD (31 - 8 * i - k)))

/-- The frame check of a run of bytes. -/
def frameCheck (bytes : List Byte) : List Byte := crcBytes (bytes.foldl crcByte crcStart)

/-- What the transmitter presents after the start-of-frame delimiter while SENDING: the stored bytes and the frame check
over them (R149); nothing in IDLE and while a reset lasts (without the preamble DEDUCED, notes/assumptions/12). -/
def State.wireBytes (s : State) : List Byte :=
  match s.resetting, s.arbiter.path with
  | none, some f => s.frameBytes f.handle ++ frameCheck (s.frameBytes f.handle)
  | _, _ => []

end Sys2Proof.Machine
end

