-- ==== Sys2Proof/Machine/Operands.lean ====
section
/-! DEFINITION. The parameters of the requests: how each enumerated byte, index, handle and configuration record of
chapter 11 is read, and which values are out of range (R187). A reader answers `none` where the request is refused
BAD_VALUE. -/

namespace Sys2Proof.Machine

/-! ### Codes of the enumerated values (section 11.4) -/

def SleepAction.code : SleepAction → Nat
  | .wake => 0 | .hold => 1 | .drop => 2

def SleepAction.all : List SleepAction := [.wake, .hold, .drop]

def LeaseMode.code : LeaseMode → Nat
  | .pinned => 0 | .fixed => 1 | .activity => 2

def LeaseMode.all : List LeaseMode := [.pinned, .fixed, .activity]

def SleepDepth.code : SleepDepth → Nat
  | .light => 0 | .deep => 1

def SleepDepth.all : List SleepDepth := [.light, .deep]

def GroupAsleep.code : GroupAsleep → Nat
  | .hold => 0 | .drop => 1

def GroupAsleep.all : List GroupAsleep := [.hold, .drop]

def TickPeriod.code : TickPeriod → Nat
  | .ms1 => 0 | .ms10 => 1 | .ms100 => 2 | .s1 => 3

def TickPeriod.all : List TickPeriod := [.ms1, .ms10, .ms100, .s1]

/-- A yes/no field, and OFF and ON of hold-full-wakes and line enable: no 0, yes 1 (line enable DEDUCED,
notes/assumptions/13). -/
def boolCode : Bool → Nat
  | false => 0
  | true => 1

/-- The value a byte names among `all`, if it names one (R187). -/
def ofCode {α : Type} (all : List α) (code : α → Nat) (b : Byte) : Option α := all.find? (fun v => code v == b.toNat)

/-- The sleep action a byte names. -/
def sleepActionOf (b : Byte) : Option SleepAction := ofCode SleepAction.all SleepAction.code b

/-- The lease mode a byte names. -/
def leaseModeOf (b : Byte) : Option LeaseMode := ofCode LeaseMode.all LeaseMode.code b

/-- The sleep depth a byte names. -/
def sleepDepthOf (b : Byte) : Option SleepDepth := ofCode SleepDepth.all SleepDepth.code b

/-- The group-while-asleep setting a byte names. -/
def groupAsleepOf (b : Byte) : Option GroupAsleep := ofCode GroupAsleep.all GroupAsleep.code b

/-- The tick period a byte names. -/
def tickPeriodOf (b : Byte) : Option TickPeriod := ofCode TickPeriod.all TickPeriod.code b

/-- The yes/no value a byte names. -/
def boolOf (b : Byte) : Option Bool := ofCode [false, true] boolCode b

/-- The host a byte names, H0 to H3 as 0 to 3. -/
def hostOf (b : Byte) : Option HostId := ofCode HostId.all HostId.toNat b

/-! ### Numbers with a range -/

/-- The number a byte holds, when it lies from `lo` to `hi`. -/
def rangeOf (lo hi : Nat) (b : Byte) : Option Nat :=
  if lo ≤ b.toNat ∧ b.toNat ≤ hi then some b.toNat else none

/-- The number a 16-bit field holds, when it lies from `lo` to `hi`. -/
def range16Of (lo hi : Nat) (w : Word16) : Option Nat :=
  if lo ≤ w.toNat ∧ w.toNat ≤ hi then some w.toNat else none

/-- An entry index; one above 63 is out of range (R10). -/
def indexOf (b : Byte) : Option Index :=
  if h : b.toNat < Config.tableSize then some ⟨b.toNat, h⟩ else none

/-- A frame handle; one above 127 is out of range (R112). -/
def handleOf (w : Word16) : Option Handle :=
  if h : w.toNat < Config.recordCount then some ⟨w.toNat, h⟩ else none

/-! ### References (R10) -/

/-- Whether the reference to entry `i` under generation `g` is current: the entry is not FREE and holds it. -/
def State.current (s : State) (i : Index) (g : Word16) : Bool :=
  !(s.entry i).isFree && (s.entry i).generation == g

/-- The claim a reference names, when the reference is current and the entry is host `h`'s. -/
def State.ownClaim (s : State) (h : HostId) (i : Index) (g : Word16) : Option Claim :=
  if s.current i g then (s.entry i).claim?.filter (fun c => c.owner = h) else none

/-- The claim of a current reference, with its pending offer, when the offer names host `h` as its target. -/
def State.offeredClaim (s : State) (h : HostId) (i : Index) : Option (Claim × Offer) :=
  match (s.entry i).claim? with
  | some c => (c.offer.filter (fun o => o.target = h)).map (fun o => (c, o))
  | none => none

/-! ### STAGE's settings (R23) -/

/-- The sleep action, lease mode and lease reload a STAGE gives, when check 2 of R23 passes on them. -/
def stageSettings (action mode : Byte) (reload : Word16) : Option (SleepAction × LeaseMode × Option Nat) :=
  match sleepActionOf action, leaseModeOf mode with
  | some a, some .pinned => if reload = 0 then some (a, .pinned, none) else none
  | some a, some m => if reload = 0 then none else some (a, m, some reload.toNat)
  | _, _ => none

/-! ### The per-host parameters (R139) -/

/-- The seven values of SET_HOST_PARAMS, when each lies in its range. -/
def hostParamsOf (p : List Byte) : Option HostParams := do
  let dozeThreshold ← rangeOf 1 32 (byteAt p 0)
  let dozeDelay ← rangeOf 1 255 (byteAt p 1)
  let lightWindow ← rangeOf 1 255 (byteAt p 2)
  let deepWindow ← rangeOf 1 255 (byteAt p 3)
  let wakeAttempts ← rangeOf 1 4 (byteAt p 4)
  let groupAsleep ← groupAsleepOf (byteAt p 5)
  let holdFullWakes ← boolOf (byteAt p 6)
  return { dozeThreshold, dozeDelay, lightWindow, deepWindow, wakeAttempts, groupAsleep, holdFullWakes }

/-! ### The configuration record (R158, R161, R187, section 11.8) -/

/-- The unknown-unicast policy and default host that two bytes give: DISCARD with 0xFF (no default host), or
DEFAULT_HOST with a host. -/
def unknownPolicyOf (policy host : Byte) : Option UnknownPolicy :=
  if policy = 0 then (if host = 0xFF then some .discard else none)
  else if policy = 1 then (hostOf host).map .defaultHost
  else none

/-- Four values read by `f` from places `k`, `k + n`, `k + 2n` and `k + 3n`. -/
def perHostOf (f : Nat → Option Nat) (k n : Nat) : Option (PerHost Nat) := do
  let h0 ← f k
  let h1 ← f (k + n)
  let h2 ← f (k + 2 * n)
  let h3 ← f (k + 3 * n)
  return { h0, h1, h2, h3 }

/-- The configuration record of 20 bytes, when every field lies in the range of R158 and the default host agrees with
the policy (check 4 of R161). -/
def configRecordOf (p : List Byte) : Option ConfigRecord := do
  let tickPeriod ← tickPeriodOf (byteAt p 0)
  let stageHold ← rangeOf 1 255 (byteAt p 2)
  let accordWindow ← rangeOf 1 255 (byteAt p 4)
  let unknown ← unknownPolicyOf (byteAt p 5) (byteAt p 6)
  let lineEnable ← boolOf (byteAt p 7)
  let entryLimit ← perHostOf (fun k => rangeOf 1 64 (byteAt p k)) 8 1
  let cellQuota ← perHostOf (fun k => range16Of 12 384 (word16At p k)) 12 2
  return { tickPeriod, probeWindow := (byteAt p 1).toNat, stageHold, lapseGrace := (byteAt p 3).toNat, accordWindow,
           unknown, lineEnable, entryLimit, cellQuota }

end Sys2Proof.Machine
end

