-- ==== Sys2Proof/Machine/Formats.lean ====
section
/-! DEFINITION. The structures of the responses (chapter 11): the codes of every enumerated value that a payload
shows, the marks of absent fields (R188), and the layout of each payload. -/

namespace Sys2Proof.Machine

/-! ### Codes shown in responses (section 11.4) -/

def ClaimState.code : ClaimState → Nat
  | .probing => 1 | .probed => 2 | .conflicted => 3 | .live => 4 | .lapsing => 5

/-- The entry state's code: FREE 0, a LIVE group 4. -/
def Entry.stateCode (e : Entry) : Nat :=
  match e.use with
  | .free => 0
  | .unicast c => c.state.code
  | .group _ => ClaimState.live.code

def Origin.code : Origin → Nat
  | .host h => h.toNat
  | .line => 4

def FrameClass.code : FrameClass → Nat
  | .unicastMatch => 0 | .groupMatch => 1 | .broadcast => 2 | .default => 3 | .localSwitch => 4

def Reach.code : Reach → Nat
  | .detached => 0 | .awake => 1 | .dozing => 2 | .asleep => 3 | .waking => 4 | .wakeRest => 5 | .stranded => 6

def WakeCause.code : WakeCause → Nat
  | .self => 0 | .frame => 1 | .holdFull => 2 | .alarm => 3

def TxOutcome.code : TxOutcome → Nat
  | .sent => 0 | .localSwitch => 1 | .selfDestined => 2 | .lineDown => 3 | .lineDisabled => 4 | .lineLost => 5

def OfferOutcome.code : OfferOutcome → Nat
  | .accepted => 0 | .refused => 1 | .withdrawn => 2 | .lapsed => 3

def AccordOutcome.code : AccordOutcome → Nat
  | .applied => 0 | .declined => 1 | .lapsed => 2 | .withdrawn => 3

/-- A host's vote: not a voter 0. -/
def voteCode : Option Vote → Nat
  | none => 0
  | some .outstanding => 1
  | some .endorsed => 2

def resetCauseCode : ResetCause → Nat
  | .powerOn => 0 | .resetPin => 1

def DetachCause.code : DetachCause → Nat
  | .command => 0 | .portReset => 1

/-- The relations of LIST_HELD (R21). -/
inductive Relation where
  | owned | member | offered
deriving DecidableEq, Repr

def Relation.code : Relation → Nat
  | .owned => 0 | .member => 1 | .offered => 2

/-- A set of hosts: bit n set for Hn. -/
def membersByte (m : PerHost Bool) : Byte :=
  byte (boolCode m.h0 + 2 * boolCode m.h1 + 4 * boolCode m.h2 + 8 * boolCode m.h3)

/-- The mark of an absent one-byte index, host or cause field (R188). -/
def absentByte : Byte := 0xFF

/-- A one-byte index, host or cause field that may be absent. -/
def markedByte (v : Option Nat) : Byte := (v.map byte).getD absentByte

/-- A one-byte field of another kind that may be absent, and is then 0. -/
def zeroByte (v : Option Nat) : Byte := byte (v.getD 0)

/-- A two-byte field that may be absent, and is then 0. -/
def zeroWord (v : Option Word16) : List Byte := word16Bytes (v.getD 0)

/-- An entry's index and generation, or their absence: index 0xFF and generation 0 (R188, R189). -/
def refBytes (r : Option EntryRef) : List Byte :=
  markedByte (r.map (·.index.val)) :: zeroWord (r.map (·.generation))

/-! ### The station table (section 11.6) -/

/-- The presence bits of an entry image. -/
def presenceBits (bits : List (Nat × Bool)) : Word16 :=
  bits.foldl (fun w b => if b.2 then w ||| (1#16 <<< b.1) else w) 0

/-- The entry image of LOOKUP, 31 bytes (R20, section 11.6). -/
def entryImage (i : Index) (e : Entry) : List Byte :=
  let head := [byte i.val, byte e.stateCode] ++ word16Bytes e.generation
  match e.use with
  | .free =>
    head ++ word16Bytes 0 ++ addressBytes 0 ++ [0, absentByte, 0, 0, 0] ++ nat16Bytes 0 ++ nat16Bytes 0 ++
      [0, 0, 0, absentByte, 0] ++ nat32Bytes 0 ++ [0]
  | .group g =>
    head ++ word16Bytes (presenceBits [(0, true), (2, true)]) ++ addressBytes g.address ++
      [1, absentByte, membersByte g.members, 0, 0] ++ nat16Bytes 0 ++ nat16Bytes 0 ++ [0, 0, 0, absentByte, 0] ++
      nat32Bytes g.hits ++ [0]
  | .unicast c =>
    head ++
      word16Bytes (presenceBits [(0, true), (1, true), (3, c.reload.isSome), (4, c.leaseRemaining.isSome),
        (5, c.activitySeen.isSome), (6, c.graceRemaining.isSome), (7, c.stageTimer.isSome), (8, c.offer.isSome),
        (9, c.collisions.isSome)]) ++
      addressBytes c.address ++ [0, byte c.owner.toNat, 0, byte c.action.code, byte c.mode.code] ++
      nat16Bytes (c.reload.getD 0) ++ nat16Bytes (c.leaseRemaining.getD 0) ++
      [byte (boolCode (c.activitySeen.getD false)), zeroByte c.graceRemaining, zeroByte c.stageTimer,
        markedByte (c.offer.map (·.target.toNat)), zeroByte (c.offer.map (·.remaining))] ++
      nat32Bytes c.hits ++ [zeroByte c.collisions]

/-! ### Frames, notices, wakes and completions (section 11.7) -/

/-- The frame descriptor, 16 bytes: record `r`, the head position, and the depths after it (R111) (a record without a
class DESIGN CHOICE, notes/assumptions/17). -/
def descriptorBytes (rec : FrameRecord) (p : RxPosition) (queueDepth holdDepth : Nat) : List Byte :=
  nat16Bytes p.handle.val ++ nat16Bytes (rec.length.getD 0) ++
    [byte rec.origin.code, zeroByte (rec.cls.map FrameClass.code)] ++ refBytes rec.matched ++
    word16Bytes rec.stamp ++ word16Bytes p.stamp ++ [byte (boolCode p.held), byte queueDepth, byte holdDepth]

/-- The entry a notice names. -/
def Report.entry : Report → Option EntryRef
  | .stageProbed e | .stageConflict e _ | .stageLapsed e _ | .leaseLapsing e _ | .leaseEnded e _
  | .addressCollision e _ | .offerReceived e _ | .offerResolved e _ _ _ => some e
  | .accordRequest .. | .accordOutcome .. | .configApplied _ | .lineUp | .lineDown => none

/-- The four detail bytes of a notice (section 11.7). -/
def Report.detail : Report → List Byte
  | .stageConflict _ left | .stageLapsed _ left | .leaseEnded _ left => [byte left.code, 0, 0, 0]
  | .leaseLapsing _ grace => [byte grace, 0, 0, 0]
  | .addressCollision _ count => [byte count, 0, 0, 0]
  | .offerReceived _ offering => [byte offering.toNat, 0, 0, 0]
  | .offerResolved _ outcome other offered => [byte outcome.code, byte other.toNat] ++ word16Bytes offered
  | .accordRequest proposer serial => byte proposer.toNat :: word16Bytes serial ++ [0]
  | .accordOutcome outcome serial declining =>
    byte outcome.code :: word16Bytes serial ++ [markedByte (declining.map HostId.toNat)]
  | .configApplied generation => word16Bytes generation ++ [0, 0]
  | .stageProbed _ | .lineUp | .lineDown => [0, 0, 0, 0]

/-- A notice record, 10 bytes. -/
def noticeBytes (n : Notice) : List Byte :=
  byte n.report.kindCode :: refBytes n.report.entry ++ n.report.detail ++ word16Bytes n.stamp

/-- A cleared wake cause record (R137). -/
def WakeRecord.cleared : WakeRecord where
  cause := none
  entry := none
  startStamp := none
  attemptsUsed := 0
  stranded := false
  heldAtResume := none
  dropped := 0

/-- The wake cause record inside the wake block. -/
def wakeRecordBytes (w : WakeRecord) : List Byte :=
  markedByte (w.cause.map WakeCause.code) :: refBytes w.entry ++ zeroWord w.startStamp ++
    [byte w.attemptsUsed, byte (boolCode w.stranded), markedByte w.heldAtResume] ++ nat32Bytes w.dropped

/-- The wake block, 19 bytes (R138). -/
def wakeBlock (c : HostCtx) : List Byte :=
  [byte c.reach.code, zeroByte (c.depth.map SleepDepth.code)] ++ nat16Bytes (c.alarm.getD 0) ++
    [zeroByte c.attempt, zeroByte (c.attemptTimer <|> c.restTimer)] ++
    wakeRecordBytes (c.wake.getD WakeRecord.cleared)

/-- A completion record, 4 bytes. -/
def completionBytes (c : Completion) : List Byte := word16Bytes c.sequence ++ [byte c.outcome.code, byte c.delivered]

/-- The seven per-host parameters (R139). -/
def hostParamsBytes (p : HostParams) : List Byte :=
  [byte p.dozeThreshold, byte p.dozeDelay, byte p.lightWindow, byte p.deepWindow, byte p.wakeAttempts,
    byte p.groupAsleep.code, byte (boolCode p.holdFullWakes)]

/-! ### Configuration (section 11.8) -/

/-- The policy and default host bytes; an absent default host is 0xFF. -/
def unknownPolicyBytes : UnknownPolicy → List Byte
  | .discard => [0, absentByte]
  | .defaultHost h => [1, byte h.toNat]

/-- The configuration record, 20 bytes. -/
def configRecordBytes (c : ConfigRecord) : List Byte :=
  [byte c.tickPeriod.code, byte c.probeWindow, byte c.stageHold, byte c.lapseGrace, byte c.accordWindow] ++
    unknownPolicyBytes c.unknown ++ [byte (boolCode c.lineEnable)] ++
    [byte c.entryLimit.h0, byte c.entryLimit.h1, byte c.entryLimit.h2, byte c.entryLimit.h3] ++
    (nat16Bytes c.cellQuota.h0 ++ nat16Bytes c.cellQuota.h1 ++ nat16Bytes c.cellQuota.h2 ++
      nat16Bytes c.cellQuota.h3)

/-- The 32 bytes that follow in READ_CONFIG while a proposal is pending. -/
def proposalBytes (p : Proposal) : List Byte :=
  byte p.proposer.toNat :: word16Bytes p.serial ++ word16Bytes p.base ++ configRecordBytes p.record ++
    [byte p.window, byte (voteCode p.votes.h0), byte (voteCode p.votes.h1), byte (voteCode p.votes.h2),
      byte (voteCode p.votes.h3), 0, 0]

/-- The payload of READ_CONFIG (R159). -/
def accordBytes (a : Accord) : List Byte :=
  word16Bytes a.generation ++ configRecordBytes a.config ++ word16Bytes a.lastSerial ++
    match a.proposal with
    | none => [byte (boolCode false)]
    | some p => byte (boolCode true) :: proposalBytes p

/-! ### Counters (section 11.9) -/

/-- The device counters in the order of section 11.9. -/
def deviceCounterBytes (d : DeviceCounters) : List Byte :=
  [d.lineGood, d.runt, d.giant, d.badCheck, d.lineLost, d.lineDisabled, d.noHandle, d.noCells, d.unknownDiscarded,
    d.groupUnmatched, d.noTaker, d.txSent].flatMap nat32Bytes

/-- The per-host counters in the order of section 11.9. -/
def hostCounterBytes (c : HostCounters) : List Byte :=
  [c.delivered, c.held, c.dropQueueFull, c.dropHoldFull, c.dropQuota, c.dropAsleep, c.dropStranded, c.submitted,
    c.txRefused, c.wakes, c.strandings].flatMap nat32Bytes

end Sys2Proof.Machine
end

