-- ==== Sys2Proof/Machine/StationTable.lean ====
section
/-! DEFINITION. The Station Table (chapters 1, 2 and 3): what each request on a claim, a group, an offer or a lease
does and answers, the expiry of the table's timers, the source observation, and the table's part in a detach. -/

namespace Sys2Proof.Machine

/-- A request refused with a status and no payload; the state is unchanged (R174, R188). -/
def refused (s : State) (st : Status) : State × Reply := (s, { status := st, payload := [] })

/-- A request accepted with a payload. -/
def accepted (s : State) (payload : List Byte) : State × Reply := (s, { status := .ok, payload := payload })

/-! ### Shared changes of an entry -/

/-- The claim in LIVE with a full lease (R54, R28): the timers of the other states absent. -/
def Claim.startLease (c : Claim) : Claim :=
  { c with
    state := .live
    stageTimer := none
    graceRemaining := none
    leaseRemaining := c.reload
    activitySeen := if c.mode = .activity then some false else none }

/-- The claim with its timer of the staged states started with `n` (R25, R26). -/
def Claim.startHold (c : Claim) (st : ClaimState) (n : Nat) : Claim := { c with state := st, stageTimer := some n }

/-- The notice that the offer on entry `i` has ended, for one party about the other (R45). -/
def State.notifyOffer (s : State) (party other : HostId) (i : Index) (o : OfferOutcome) : State :=
  s.notify party (.offerResolved (s.entryRef i) o other (s.entry i).generation)

/-- The entry's return to FREE with any pending offer, whose target is told WITHDRAWN (R30, R43). -/
def State.endClaim (s : State) (i : Index) (c : Claim) : State :=
  match c.offer with
  | some o => (s.notifyOffer o.target c.owner i .withdrawn).freeEntry i
  | none => s.freeEntry i

/-! ### Staging and binding (R23 to R29) -/

/-- The claim an accepted STAGE makes in an entry (R24). -/
def stagedClaim (cfg : ConfigRecord) (h : HostId) (a : Address) (act : SleepAction) (m : LeaseMode)
    (reload : Option Nat) : Claim where
  address := a
  owner := h
  state := if cfg.probeWindow = 0 then .probed else .probing
  action := act
  mode := m
  reload := reload
  stageTimer := some (if cfg.probeWindow = 0 then cfg.stageHold else cfg.probeWindow)
  leaseRemaining := none
  activitySeen := none
  graceRemaining := none
  offer := none
  hits := 0
  collisions := none

/-- The payload that names entry `i` with its generation and state (R24, R28, R23). -/
def State.entryPayload (s : State) (i : Index) : List Byte :=
  byte i.val :: word16Bytes (s.entry i).generation ++ [byte (s.entry i).stateCode]

/-- STAGE (R23, R24): the checks in order, and the claim staged in the lowest-indexed FREE entry. -/
def stageRequest (h : HostId) (p : List Byte) (s : State) : State × Reply :=
  let a := addressAt p 0
  if s.asleep h then refused s .asleep
  else if isGroupAddress a || a == 0 then refused s .badValue
  else
    match stageSettings (byteAt p 6) (byteAt p 7) (word16At p 8) with
    | none => refused s .badValue
    | some (act, m, reload) =>
      match s.claimAt a with
      | some (i, c) =>
        if c.owner = h then (s, { status := .alreadyYours, payload := s.entryPayload i })
        else if c.bound then refused s .addressHeld
        else refused s .stagedElsewhere
      | none =>
        if s.accord.config.entryLimit.get h ≤ s.holdings h then refused s .limitReached
        else
          match s.lowestFree with
          | none => refused s .tableFull
          | some i =>
            let t := s.setEntry i
              { generation := (s.entry i).generation + 1
                use := .unicast (stagedClaim s.accord.config h a act m reload) }
            accepted t (t.entryPayload i)

/-- BIND (R28): a PROBED claim of the host goes to LIVE with its lease started and its collision count 0. -/
def bindRequest (h : HostId) (p : List Byte) (s : State) : State × Reply :=
  if s.asleep h then refused s .asleep
  else
    match indexOf (byteAt p 0) with
    | none => refused s .badValue
    | some i =>
      match s.ownClaim h i (word16At p 1) with
      | none => refused s .noEntry
      | some c =>
        match c.state with
        | .probing => refused s .notProbed
        | .conflicted => refused s .conflicted
        | .live | .lapsing => refused s .wrongState
        | .probed =>
          let t := s.setClaim i { c.startLease with collisions := some 0 }
          accepted t (t.entryPayload i)

/-- YIELD (R30): an entry of the host returns to FREE from any state. -/
def yieldRequest (h : HostId) (p : List Byte) (s : State) : State × Reply :=
  if s.asleep h then refused s .asleep
  else
    match indexOf (byteAt p 0) with
    | none => refused s .badValue
    | some i =>
      match s.ownClaim h i (word16At p 1) with
      | none => refused s .noEntry
      | some c => accepted (s.endClaim i c) []

/-- SET_ACTION (R32): the sleep action of a LIVE or LAPSING claim of the host. -/
def setActionRequest (h : HostId) (p : List Byte) (s : State) : State × Reply :=
  if s.asleep h then refused s .asleep
  else
    match indexOf (byteAt p 0), sleepActionOf (byteAt p 3) with
    | some i, some act =>
      match s.ownClaim h i (word16At p 1) with
      | none => refused s .noEntry
      | some c => if c.bound then accepted (s.setClaim i { c with action := act }) [] else refused s .wrongState
    | _, _ => refused s .badValue

/-! ### Groups (R33, R34) -/

/-- No host. -/
def noHosts : PerHost Bool := .same false

/-- JOIN (R33): the host is added to the group entry that holds the address, or a group entry is created. -/
def joinRequest (h : HostId) (p : List Byte) (s : State) : State × Reply :=
  let a := addressAt p 0
  if s.asleep h then refused s .asleep
  else if !isGroupAddress a || a == broadcastAddress then refused s .badValue
  else
    match s.groupAt a with
    | some (i, g) =>
      if g.members.get h then refused s .alreadyMember
      else
        accepted (s.setGroup i { g with members := g.members.set h true })
          (byte i.val :: word16Bytes (s.entry i).generation ++ [byte (boolCode false)])
    | none =>
      match s.lowestFree with
      | none => refused s .tableFull
      | some i =>
        let gen := (s.entry i).generation + 1
        accepted
          (s.setEntry i
            { generation := gen, use := .group { address := a, members := noHosts.set h true, hits := 0 } })
          (byte i.val :: word16Bytes gen ++ [byte (boolCode true)])

/-- The host removed from the members of group entry `i`, which returns to FREE with its last member (R34, R47). -/
def State.removeMember (s : State) (i : Index) (g : Group) (h : HostId) : State :=
  let rest := g.members.set h false
  if rest.members.isEmpty then s.freeEntry i else s.setGroup i { g with members := rest }

/-- LEAVE (R34). -/
def leaveRequest (h : HostId) (p : List Byte) (s : State) : State × Reply :=
  let a := addressAt p 0
  if s.asleep h then refused s .asleep
  else if !isGroupAddress a || a == broadcastAddress then refused s .badValue
  else
    match s.groupAt a with
    | none => refused s .notMember
    | some (i, g) => if g.members.get h then accepted (s.removeMember i g h) [] else refused s .notMember

/-! ### Offers (R36 to R43) -/

/-- OFFER (R36): an offer of a LIVE claim to another attached host, its remaining count the stage hold. -/
def offerRequest (h : HostId) (p : List Byte) (s : State) : State × Reply :=
  if s.asleep h then refused s .asleep
  else
    match indexOf (byteAt p 0), (hostOf (byteAt p 3)).filter (fun t => t ≠ h && s.attached t) with
    | some i, some t =>
      match s.ownClaim h i (word16At p 1) with
      | none => refused s .noEntry
      | some c =>
        if c.state ≠ .live then refused s .wrongState
        else if c.offer.isSome then refused s .offerPending
        else
          let u := s.setClaim i { c with offer := some { target := t, remaining := s.accord.config.stageHold } }
          accepted (u.notify t (.offerReceived (u.entryRef i) h)) []
    | _, _ => refused s .badValue

/-- The claim an accepted ACCEPT leaves with its new owner (R39): in LIVE the lease is started again, in LAPSING the
grace goes on. -/
def Claim.handOver (c : Claim) (h : HostId) : Claim :=
  let d := { c with owner := h, offer := none }
  if c.state = .live then d.startLease else d

/-- ACCEPT (R38, R39): the claim passes to the accepting target under a new generation. -/
def acceptRequest (h : HostId) (p : List Byte) (s : State) : State × Reply :=
  if s.asleep h then refused s .asleep
  else
    match indexOf (byteAt p 0) with
    | none => refused s .badValue
    | some i =>
      let gen := word16At p 1
      if !s.current i gen then refused s .noEntry
      else
        match s.offeredClaim h i with
        | none => refused s .noOffer
        | some (c, _) =>
          if s.accord.config.entryLimit.get h ≤ s.holdings h then refused s .limitReached
          else
            let t := s.setEntry i { generation := gen + 1, use := .unicast (c.handOver h) }
            accepted (t.notify c.owner (.offerResolved (t.entryRef i) .accepted h gen))
              (byte i.val :: word16Bytes (gen + 1))

/-- REFUSE (R40): the target declines the offer, and the owner is told REFUSED. -/
def refuseRequest (h : HostId) (p : List Byte) (s : State) : State × Reply :=
  if s.asleep h then refused s .asleep
  else
    match indexOf (byteAt p 0) with
    | none => refused s .badValue
    | some i =>
      if !s.current i (word16At p 1) then refused s .noEntry
      else
        match s.offeredClaim h i with
        | none => refused s .noOffer
        | some (c, _) => accepted ((s.setClaim i { c with offer := none }).notifyOffer c.owner h i .refused) []

/-- RETRACT (R41): the owner withdraws the offer, and the target is told WITHDRAWN. -/
def retractRequest (h : HostId) (p : List Byte) (s : State) : State × Reply :=
  if s.asleep h then refused s .asleep
  else
    match indexOf (byteAt p 0) with
    | none => refused s .badValue
    | some i =>
      match s.ownClaim h i (word16At p 1) with
      | none => refused s .noEntry
      | some c =>
        match c.offer with
        | none => refused s .noOffer
        | some o => accepted ((s.setClaim i { c with offer := none }).notifyOffer o.target h i .withdrawn) []

/-! ### Renewal (R61) -/

/-- RENEW (R61): a LIVE or LAPSING claim with a FIXED or ACTIVITY lease is LIVE with a full lease. -/
def renewRequest (h : HostId) (p : List Byte) (s : State) : State × Reply :=
  if s.asleep h then refused s .asleep
  else
    match indexOf (byteAt p 0) with
    | none => refused s .badValue
    | some i =>
      match s.ownClaim h i (word16At p 1) with
      | none => refused s .noEntry
      | some c =>
        if !c.bound || c.mode = .pinned then refused s .wrongState
        else
          let t := s.setClaim i c.startLease
          accepted t (t.entryPayload i ++ nat16Bytes (c.reload.getD 0))

/-! ### Looking at the table (R19 to R21) -/

/-- LOOKUP (R19, R20): the image of the entry at an index, or of the entry that holds an address. -/
def lookupRequest (h : HostId) (p : List Byte) (s : State) : State × Reply :=
  if s.asleep h then refused s .asleep
  else if byteAt p 0 = 0 then
    match indexOf (byteAt p 1) with
    | none => refused s .badValue
    | some i => accepted s (entryImage i (s.entry i))
  else if byteAt p 0 = 1 then
    match s.holder (addressAt p 1) with
    | none => refused s .noEntry
    | some i => accepted s (entryImage i (s.entry i))
  else refused s .badValue

/-- The relation in which entry `i` stands to host `h`, if it stands in one (R21). -/
def State.relation (s : State) (h : HostId) (i : Index) : Option Relation :=
  match (s.entry i).use with
  | .free => none
  | .unicast c =>
    if c.owner = h then some .owned
    else if c.offer.any (fun o => o.target = h) then some .offered
    else none
  | .group g => if g.members.get h then some .member else none

/-- One item of LIST_HELD. -/
def State.heldItem (s : State) (h : HostId) (i : Index) : List Byte :=
  match s.relation h i with
  | some r => s.entryPayload i ++ [byte r.code]
  | none => []

/-- LIST_HELD (R21). -/
def listHeldRequest (h : HostId) (_p : List Byte) (s : State) : State × Reply :=
  if s.asleep h then refused s .asleep
  else
    accepted s
      (byte (s.holdings h) :: byte (s.accord.config.entryLimit.get h) :: Index.all.flatMap (s.heldItem h))

/-! ### Expiries (R25, R27, R42, R56, R60) -/

/-- The claim of entry `i`, when it is in one of some states with its stage timer at 0. -/
def State.stageExpired (s : State) (i : Index) (sts : List ClaimState) : Option Claim :=
  (s.entry i).claim?.filter (fun c => sts.contains c.state && c.stageTimer == some 0)

/-- Expiry of the probe window (R25): PROBED, with the stage hold started and STAGE_PROBED to the owner. -/
def probeWindowExpired (i : Index) (s : State) : State :=
  match s.stageExpired i [.probing] with
  | some c =>
    (s.setClaim i (c.startHold .probed s.accord.config.stageHold)).notify c.owner (.stageProbed (s.entryRef i))
  | none => s

/-- Expiry of the stage hold (R27): FREE, with STAGE_LAPSED to the owner. -/
def stageHoldExpired (i : Index) (s : State) : State :=
  match s.stageExpired i [.probed, .conflicted] with
  | some c => (s.notify c.owner (.stageLapsed (s.entryRef i) c.state)).freeEntry i
  | none => s

/-- Expiry of an offer (R42): cleared, with LAPSED to both parties. -/
def offerExpired (i : Index) (s : State) : State :=
  match (s.entry i).claim? with
  | some c =>
    match c.offer with
    | some o =>
      if o.remaining = 0 then
        ((s.setClaim i { c with offer := none }).notifyOffer c.owner o.target i .lapsed).notifyOffer o.target c.owner i
          .lapsed
      else s
    | none => s
  | none => s

/-- Whether the part vouches for an owner in a reachability state (R56). -/
def Reach.vouched : Reach → Bool
  | .asleep | .waking | .wakeRest => true
  | .detached | .awake | .dozing | .stranded => false

/-- Whether a lease that has run out is reloaded (R56). -/
def State.leaseReloads (s : State) (c : Claim) : Bool :=
  c.mode = .activity && (c.activitySeen == some true || (s.host c.owner).reach.vouched)

/-- Lease run-out (R56, R58, R59). -/
def leaseRanOut (i : Index) (s : State) : State :=
  match (s.entry i).claim? with
  | some c =>
    if c.state = .live ∧ c.leaseRemaining = some 0 then
      if s.leaseReloads c then s.setClaim i c.startLease
      else if s.accord.config.lapseGrace = 0 then
        (s.notify c.owner (.leaseEnded (s.entryRef i) .live)).endClaim i c
      else
        let g := s.accord.config.lapseGrace
        (s.setClaim i
            { c with state := .lapsing, leaseRemaining := none, activitySeen := none, graceRemaining := some g }).notify
          c.owner (.leaseLapsing (s.entryRef i) g)
    else s
  | none => s

/-- Expiry of the grace (R60). -/
def graceExpired (i : Index) (s : State) : State :=
  match (s.entry i).claim? with
  | some c =>
    if c.state = .lapsing ∧ c.graceRemaining = some 0 then
      (s.notify c.owner (.leaseEnded (s.entryRef i) .lapsing)).endClaim i c
    else s
  | none => s

/-! ### Tick events at the table (R5) -/

/-- The claim at a tick event: each running timer lowered by one. -/
def Claim.tick (c : Claim) : Claim :=
  { c with
    stageTimer := lowerTimer c.stageTimer
    leaseRemaining := lowerTimer c.leaseRemaining
    graceRemaining := lowerTimer c.graceRemaining
    offer := c.offer.map (fun o => { o with remaining := o.remaining - 1 }) }

/-- An entry at a tick event. -/
def Entry.tick (e : Entry) : Entry :=
  match e.use with
  | .unicast c => { e with use := .unicast c.tick }
  | _ => e

/-! ### Classification at the table (R13, R15) -/

/-- The source observation of a good line frame (R13, R26). -/
def State.observeSource (s : State) (a : Address) : State :=
  match s.claimAt a with
  | none => s
  | some (i, c) =>
    match c.state with
    | .probing | .probed =>
      (s.setClaim i (c.startHold .conflicted s.accord.config.stageHold)).notify c.owner
        (.stageConflict (s.entryRef i) c.state)
    | .conflicted => s
    | .live | .lapsing =>
      let n := bumpSmall (c.collisions.getD 0)
      (s.setClaim i { c with collisions := some n }).notify c.owner (.addressCollision (s.entryRef i) n)

/-- The hit count of entry `i` raised by one (R15). -/
def State.raiseHits (s : State) (i : Index) : State :=
  match (s.entry i).use with
  | .free => s
  | .unicast c => s.setClaim i { c with hits := bump c.hits }
  | .group g => s.setGroup i { g with hits := bump g.hits }

/-- The activity mark of an accepted SUBMIT (R55). -/
def State.markActivity (s : State) (i : Index) : State :=
  match (s.entry i).claim? with
  | some c => if c.state = .live ∧ c.mode = .activity then s.setClaim i { c with activitySeen := some true } else s
  | none => s

/-! ### The entry side of a detach (R46, R47) -/

/-- Entry `i` at the detach of host `h`, first pass: an entry of the host returns to FREE (R46). -/
def State.detachOwned (h : HostId) (s : State) (i : Index) : State :=
  match (s.entry i).claim? with
  | some c => if c.owner = h then s.endClaim i c else s
  | none => s

/-- Entry `i` at the detach of host `h`, second pass: the host leaves a group, and an offer to it is cleared with
REFUSED to the owner (R47). -/
def State.detachOther (h : HostId) (s : State) (i : Index) : State :=
  match (s.entry i).use with
  | .free => s
  | .group g => if g.members.get h then s.removeMember i g h else s
  | .unicast c =>
    if c.offer.any (fun o => o.target = h) then
      (s.setClaim i { c with offer := none }).notifyOffer c.owner h i .refused
    else s

/-- The table at the detach of host `h`, its notices in the order R179 gives. -/
def State.detachTable (s : State) (h : HostId) : State :=
  Index.all.foldl (State.detachOther h) (Index.all.foldl (State.detachOwned h) s)

end Sys2Proof.Machine
end

