-- ==== Sys2Proof/Machine/Delivery.lean ====
section
/-! DEFINITION. The delivery procedure of a Host Context, the receive queue and the hold list, and the begin of a wake
(chapters 6 and 7). -/

namespace Sys2Proof.Machine

/-! ### Wakes (R127) -/

/-- The resume window of a sleep depth (R127). -/
def HostParams.window (p : HostParams) : SleepDepth → Nat
  | .light => p.lightWindow
  | .deep => p.deepWindow

/-- The attempt timer an attempt starts with: the window of the host's sleep depth (R127, R130). -/
def HostCtx.attemptWindow (c : HostCtx) : Option Nat := c.depth.map c.params.window

/-- The wake cause record changed, where the host has one. -/
def HostCtx.updateWake (c : HostCtx) (f : WakeRecord → WakeRecord) : HostCtx := { c with wake := c.wake.map f }

/-- The begin of a wake with a cause and an entry at the event whose stamp is `stamp` (R127). -/
def HostCtx.beginWake (c : HostCtx) (cause : WakeCause) (entry : Option EntryRef) (stamp : Word16) : HostCtx :=
  { c with
    reach := .waking
    alarm := none
    attempt := some 1
    attemptTimer := c.attemptWindow
    wake := c.wake.map (fun w =>
      { w with cause := some cause, entry := entry, startStamp := some stamp, attemptsUsed := 1 })
    counters := { c.counters with wakes := bump c.counters.wakes } }

/-! ### The delivery procedure (R105 to R109) -/

/-- The results of a call (R105). -/
inductive DeliveryResult where
  | delivered | held | dropQueueFull | dropHoldFull | dropQuota | dropAsleep | dropStranded
deriving DecidableEq, Repr

/-- Whether a result placed the frame. -/
def DeliveryResult.placed : DeliveryResult → Bool
  | .delivered | .held => true
  | .dropQueueFull | .dropHoldFull | .dropQuota | .dropAsleep | .dropStranded => false

/-- The governing action of a call (R105): the claim's sleep action for UNICAST_MATCH and LOCAL, the host's
group-while-asleep setting for GROUP_MATCH and BROADCAST, and HOLD for DEFAULT. -/
def governingAction (cls : FrameClass) (action : SleepAction) (p : HostParams) : SleepAction :=
  match cls with
  | .unicastMatch | .localSwitch => action
  | .groupMatch | .broadcast =>
    match p.groupAsleep with
    | .hold => .hold
    | .drop => .drop
  | .default => .hold

/-- The hold path's result (R107). -/
def HostCtx.holdPath (c : HostCtx) (quota cells : Nat) : DeliveryResult :=
  if Config.holdListSize ≤ c.holdList.length then .dropHoldFull
  else if quota < c.charge + cells then .dropQuota
  else .held

/-- The result of a call (R106). A DETACHED host is never called; it would drop nothing and place nothing, and
`deliver` makes no such call. -/
def HostCtx.deliveryResult (c : HostCtx) (quota cells : Nat) (gov : SleepAction) : DeliveryResult :=
  match c.reach with
  | .awake | .dozing | .detached =>
    if !c.holdList.isEmpty then c.holdPath quota cells
    else if Config.receiveQueueSize ≤ c.rxQueue.length then .dropQueueFull
    else if quota < c.charge + cells then .dropQuota
    else .delivered
  | .asleep | .waking | .wakeRest => if gov = .drop then .dropAsleep else c.holdPath quota cells
  | .stranded => .dropStranded

/-- The wake a call begins, with the entry its record names (R108). -/
def HostCtx.wakeOfCall (c : HostCtx) (gov : SleepAction) (r : DeliveryResult) (matched : Option EntryRef) :
    Option (WakeCause × Option EntryRef) :=
  if c.reach = .asleep then
    match gov with
    | .wake => some (.frame, matched)
    | .hold => if r = .dropHoldFull ∧ c.params.holdFullWakes then some (.holdFull, none) else none
    | .drop => none
  else none

/-- The counter a result raises (R118). -/
def HostCounters.count (c : HostCounters) : DeliveryResult → HostCounters
  | .delivered => { c with delivered := bump c.delivered }
  | .held => { c with held := bump c.held }
  | .dropQueueFull => { c with dropQueueFull := bump c.dropQueueFull }
  | .dropHoldFull => { c with dropHoldFull := bump c.dropHoldFull }
  | .dropQuota => { c with dropQuota := bump c.dropQuota }
  | .dropAsleep => { c with dropAsleep := bump c.dropAsleep }
  | .dropStranded => { c with dropStranded := bump c.dropStranded }

/-- The doze delay timer started, with delay reached no (R115). -/
def HostCtx.startDoze (c : HostCtx) : HostCtx := { c with dozeTimer := some c.params.dozeDelay, delayReached := false }

/-- The doze delay timer stopped, with delay reached no (R115). -/
def HostCtx.stopDoze (c : HostCtx) : HostCtx := { c with dozeTimer := none, delayReached := false }

/-- A position appended to the receive queue, which starts the doze delay timer when the queue was empty (R115). -/
def HostCtx.appendRx (c : HostCtx) (p : RxPosition) : HostCtx :=
  let d := { c with rxQueue := c.rxQueue ++ [p] }
  if c.rxQueue.isEmpty then d.startDoze else d

/-- The context after a result: the position taken and charged, or the drop counted in the wake cause record of a
host that is asleep (R109, R77). -/
def HostCtx.settle (c : HostCtx) (r : DeliveryResult) (h : Handle) (stamp : Word16) (cells : Nat) : HostCtx :=
  match r with
  | .delivered =>
    ({ c with charge := c.charge + cells }).appendRx { handle := h, stamp := stamp, held := false }
  | .held =>
    { c with charge := c.charge + cells, holdList := c.holdList ++ [{ handle := h, stamp := stamp }] }
  | .dropQueueFull | .dropHoldFull | .dropQuota | .dropAsleep | .dropStranded =>
    if c.reach.isAsleep then c.updateWake (fun w => { w with dropped := bump w.dropped }) else c

/-- The context after a call: the result settled and counted, then any wake begun (R105 to R109). -/
def HostCtx.afterCall (c : HostCtx) (quota cells : Nat) (cls : FrameClass) (matched : Option EntryRef)
    (action : SleepAction) (h : Handle) (stamp : Word16) : HostCtx :=
  let gov := governingAction cls action c.params
  let r := c.deliveryResult quota cells gov
  let d := c.settle r h stamp cells
  let e := { d with counters := d.counters.count r }
  match c.wakeOfCall gov r matched with
  | some (cause, entry) => e.beginWake cause entry stamp
  | none => e

/-- Whether a call places the frame. -/
def HostCtx.placesCall (c : HostCtx) (quota cells : Nat) (cls : FrameClass) (action : SleepAction) : Bool :=
  (c.deliveryResult quota cells (governingAction cls action c.params)).placed

/-- A frame to be delivered: its record, class, matched entry and the sleep action carried with the call (R98,
R147). -/
structure Delivery where
  handle : Handle
  cls : FrameClass
  matched : Option EntryRef
  action : SleepAction
deriving DecidableEq, Repr

/-- The delivery procedure of host `h`, with its report whether the frame was placed (R105). -/
def State.deliver (s : State) (h : HostId) (d : Delivery) : State × Bool :=
  if s.attached h then
    let c := s.host h
    let quota := s.accord.config.cellQuota.get h
    let cells := s.cellCount d.handle
    let t := s.setHost h (c.afterCall quota cells d.cls d.matched d.action d.handle s.stamp)
    if c.placesCall quota cells d.cls d.action then (t.takeRef d.handle, true) else (t, false)
  else (s, false)

/-- The deliveries of a frame to some hosts in order, with the number that placed it (R98, R147). -/
def State.deliverAll (s : State) (hs : List HostId) (d : Delivery) : State × Nat :=
  hs.foldl
    (fun x h =>
      let y := x.1.deliver h d
      (y.1, if y.2 then x.2 + 1 else x.2))
    (s, 0)

/-! ### Drains (R112, R134) -/

/-- The receive queue position that a hold list position becomes when it is drained (R109). -/
def HoldPosition.drained (p : HoldPosition) : RxPosition := { handle := p.handle, stamp := p.stamp, held := true }

/-- The oldest `n` held frames moved to the tail of the receive queue (R112, R134). -/
def HostCtx.drain (c : HostCtx) (n : Nat) : HostCtx :=
  { c with
    rxQueue := c.rxQueue ++ (c.holdList.take n).map HoldPosition.drained
    holdList := c.holdList.drop n }

/-! ### Requests on the receive side (R111, R112, R114) -/

/-- READ_FRAME (R111) (a head without a record DESIGN CHOICE, notes/assumptions/17). -/
def readFrameRequest (h : HostId) (_p : List Byte) (s : State) : State × Reply :=
  if s.asleep h then refused s .asleep
  else
    let c := s.host h
    match c.rxQueue with
    | [] => refused s .queueEmpty
    | q :: _ =>
      match s.record q.handle with
      | none => refused s .queueEmpty
      | some rec =>
        accepted s (descriptorBytes rec q c.rxQueue.length c.holdList.length ++ s.frameBytes q.handle)

/-- The context after the head of its receive queue is acknowledged (R112, steps 1, 2, 4 and 5). -/
def HostCtx.acknowledge (c : HostCtx) (cells : Nat) : HostCtx :=
  let d := ({ c with rxQueue := c.rxQueue.tail, charge := c.charge - cells }).drain 1
  if d.rxQueue.isEmpty then d.stopDoze else d.startDoze

/-- ACK_FRAME (R112). -/
def ackFrameRequest (h : HostId) (p : List Byte) (s : State) : State × Reply :=
  if s.asleep h then refused s .asleep
  else
    match handleOf (word16At p 0) with
    | none => refused s .badValue
    | some r =>
      let c := s.host h
      match c.rxQueue with
      | [] => refused s .queueEmpty
      | q :: _ =>
        if q.handle ≠ r then refused s .notHead
        else
          let d := c.acknowledge (s.cellCount r)
          accepted ((s.setHost h d).dropRef r)
            [byte d.rxQueue.length, byte d.holdList.length, byte (boolCode (!c.holdList.isEmpty))]

/-- QUEUE_STATUS (R114). -/
def queueStatusRequest (h : HostId) (_p : List Byte) (s : State) : State × Reply :=
  if s.asleep h then refused s .asleep
  else
    let c := s.host h
    accepted s
      ([byte c.reach.code, byte c.rxQueue.length, byte c.holdList.length] ++ nat16Bytes c.charge ++
        nat16Bytes (s.accord.config.cellQuota.get h) ++ zeroWord (c.rxQueue.head?.map (·.stamp)) ++
        zeroWord (c.holdList.head?.map (·.stamp)) ++
        [zeroByte c.dozeTimer, byte (boolCode c.delayReached), byte (boolCode c.ready)])

/-- Expiry of the doze delay timer (R115). -/
def dozeDelayExpired (h : HostId) (s : State) : State :=
  let c := s.host h
  if c.dozeTimer = some 0 then s.setHost h { c with dozeTimer := none, delayReached := true } else s

/-! ### The pool as one host sees it (R80) -/

/-- POOL_STATUS (R80). -/
def poolStatusRequest (h : HostId) (_p : List Byte) (s : State) : State × Reply :=
  if s.asleep h then refused s .asleep
  else
    let cells := s.pool.freeCells.length
    let records := s.pool.freeRecords.length
    accepted s
      (nat16Bytes cells ++ [byte records, byte Config.receiveReserve, byte Config.handleReserve] ++
        nat16Bytes (cells - Config.receiveReserve) ++ [byte (records - Config.handleReserve)] ++
        nat16Bytes (s.host h).charge ++ nat16Bytes (s.accord.config.cellQuota.get h))

end Sys2Proof.Machine
end

