-- ==== Sys2Proof/Machine/Reachability.lean ====
section
/-! DEFINITION. Host reachability and wake (chapter 7): doze, sleep, resumption, the wake's timers, stranding, and the
per-host parameters. -/

namespace Sys2Proof.Machine

/-- DOZE (R124): an AWAKE host is DOZING; a DOZING host stays so. -/
def dozeRequest (h : HostId) (_p : List Byte) (s : State) : State × Reply :=
  if s.asleep h then refused s .asleep
  else accepted (s.setHost h { s.host h with reach := .dozing }) []

/-- The context of a host that an accepted SLEEP makes ASLEEP (R125, R137). -/
def HostCtx.goToSleep (c : HostCtx) (d : SleepDepth) (wakeAfter : Nat) : HostCtx :=
  { c with
    reach := .asleep
    depth := some d
    wake := some .cleared
    alarm := if wakeAfter = 0 then none else some wakeAfter }

/-- SLEEP (R125). -/
def sleepRequest (h : HostId) (p : List Byte) (s : State) : State × Reply :=
  if s.asleep h then refused s .asleep
  else
    match sleepDepthOf (byteAt p 0) with
    | none => refused s .badValue
    | some d => accepted (s.setHost h ((s.host h).goToSleep d (word16At p 1).toNat)) []

/-- The wake cause record as a RESUME from a state in which the host is asleep completes it, before the drain
(R133). -/
def WakeRecord.complete (w : WakeRecord) (r : Reach) (stamp : Word16) (held : Nat) : WakeRecord :=
  let v := { w with heldAtResume := some held }
  match r with
  | .asleep =>
    { v with cause := some .self, entry := none, startStamp := some stamp, attemptsUsed := 0, stranded := false }
  | .waking | .wakeRest => { v with stranded := false }
  | .stranded => { v with stranded := true }
  | .detached | .awake | .dozing => v

/-- The drain of a RESUME (R134): held frames move until the hold list is empty or the receive queue holds 32; a drain
into an empty queue starts the doze delay timer. -/
def HostCtx.drainAll (c : HostCtx) : HostCtx :=
  let n := min c.holdList.length (Config.receiveQueueSize - c.rxQueue.length)
  let d := c.drain n
  if c.rxQueue.isEmpty ∧ 0 < n then d.startDoze else d

/-- A host made AWAKE by a RESUME taken while it is asleep (R133, R134). -/
def HostCtx.wakeUp (c : HostCtx) (stamp : Word16) : HostCtx :=
  HostCtx.drainAll
    { c with
      reach := .awake
      depth := none
      alarm := none
      attempt := none
      attemptTimer := none
      restTimer := none
      wake := c.wake.map (fun w => w.complete c.reach stamp c.holdList.length) }

/-- A host at a RESUME in any state of an attached host (R132, R133). -/
def HostCtx.resume (c : HostCtx) (stamp : Word16) : HostCtx :=
  match c.reach with
  | .dozing => { c with reach := .awake }
  | .asleep | .waking | .wakeRest | .stranded => c.wakeUp stamp
  | .awake | .detached => c

/-- RESUME (R132, R133): accepted in every state; the response carries the wake block after the event. -/
def resumeRequest (h : HostId) (_p : List Byte) (s : State) : State × Reply :=
  let c := (s.host h).resume s.stamp
  accepted (s.setHost h c) (wakeBlock c)

/-- READ_WAKE (R138). -/
def readWakeRequest (h : HostId) (_p : List Byte) (s : State) : State × Reply := accepted s (wakeBlock (s.host h))

/-- SET_HOST_PARAMS (R139): all seven values at once. -/
def setHostParamsRequest (h : HostId) (p : List Byte) (s : State) : State × Reply :=
  if s.asleep h then refused s .asleep
  else
    match hostParamsOf p with
    | none => refused s .badValue
    | some q => accepted (s.setHost h { s.host h with params := q }) (hostParamsBytes q)

/-! ### The timers of a wake (R126, R129 to R131) -/

/-- Expiry of the wake-after alarm (R126): a wake with cause ALARM. -/
def alarmExpired (h : HostId) (s : State) : State :=
  let c := s.host h
  if c.reach = .asleep ∧ c.alarm = some 0 then s.setHost h (c.beginWake .alarm none s.stamp) else s

/-- `f` applied `n` times. -/
def times {α : Type} (f : α → α) : Nat → α → α
  | 0, a => a
  | n + 1, a => times f n (f a)

/-- The context of a host that is stranded, its hold list of `cells` cells discarded (R131). -/
def HostCtx.strand (c : HostCtx) (cells : Nat) : HostCtx :=
  let n := c.holdList.length
  { c with
    reach := .stranded
    attempt := none
    attemptTimer := none
    wake := c.wake.map (fun w => { w with stranded := true, dropped := times bump n w.dropped })
    holdList := []
    charge := c.charge - cells
    counters :=
      { c.counters with
        dropStranded := times bump n c.counters.dropStranded
        strandings := bump c.counters.strandings } }

/-- Stranding of host `h` (R131): its held frames are discarded from head to tail. -/
def State.strand (s : State) (h : HostId) : State :=
  let held := (s.host h).holdList.map (·.handle)
  (s.setHost h ((s.host h).strand (held.map s.cellCount).sum)).dropRefs held

/-- Expiry of a wake attempt (R129): WAKE_REST while attempts remain, and stranding after the last. -/
def attemptExpired (h : HostId) (s : State) : State :=
  let c := s.host h
  if c.reach = .waking ∧ c.attemptTimer = some 0 then
    if c.attempt.getD 0 < c.params.wakeAttempts then
      s.setHost h { c with reach := .wakeRest, attemptTimer := none, restTimer := some Config.wakeRest }
    else s.strand h
  else s

/-- Expiry of the rest timer (R130): the next attempt. -/
def restExpired (h : HostId) (s : State) : State :=
  let c := s.host h
  if c.reach = .wakeRest ∧ c.restTimer = some 0 then
    let n := c.attempt.getD 0 + 1
    s.setHost h
      ({ c with reach := .waking, restTimer := none, attempt := some n, attemptTimer := c.attemptWindow }.updateWake
        (fun w => { w with attemptsUsed := n }))
  else s

/-- A host's timers at a tick event (R53, R115). -/
def HostCtx.tick (c : HostCtx) : HostCtx :=
  { c with
    alarm := lowerTimer c.alarm
    attemptTimer := lowerTimer c.attemptTimer
    restTimer := lowerTimer c.restTimer
    dozeTimer := lowerTimer c.dozeTimer }

end Sys2Proof.Machine
end

