-- ==== Sys2Proof/Machine/LineInterface.lean ====
section
/-! DEFINITION. The Line Interface and the Classifier (chapter 5, with R72 to R74): the line's events, reception byte
by byte, the integrity outcome, and the classification of a good frame. -/

namespace Sys2Proof.Machine

/-- The hosts that are attached, in ascending order. -/
def State.attachedHosts (s : State) : List HostId := HostId.all.filter s.attached

/-! ### Frame start (R86, R73) -/

/-- A reception that begins with a frame start. -/
def Reception.begin (m : ReceptionMode) : Reception :=
  { mode := m, received := 0, errorSeen := false, recent := [], check := crcStart }

/-- A record taken from the head of the free record list (R68). -/
def State.takeRecord (s : State) (r : Handle) (rest : List Handle) (rec : FrameRecord) : State :=
  { s with pool := { s.pool with records := s.pool.records.set r (some rec), freeRecords := rest } }

/-- The record that a frame start takes (R68, R86). -/
def State.receivingRecord (s : State) : FrameRecord where
  origin := .line
  stamp := s.stamp
  chain := []
  exhausted := some false
  length := none
  cls := none
  matched := none
  refs := 1

/-- FRAME_START (R86): with the receiver IDLE and the line UP (without effect elsewhere DEDUCED, notes/assumptions/8).
-/
def frameStarted (s : State) : State :=
  if s.line.reception.isSome || !s.line.up then s
  else if !s.accord.config.lineEnable then
    (s.setReception (some (.begin .ignoring))).countDevice (fun d => { d with lineDisabled := bump d.lineDisabled })
  else
    match s.pool.freeRecords with
    | [] => (s.setReception (some (.begin .ignoring))).countDevice (fun d => { d with noHandle := bump d.noHandle })
    | r :: rest => (s.takeRecord r rest s.receivingRecord).setReception (some (.begin (.storing r)))

/-! ### Bytes (R87, R72, R74) -/

/-- The pool after the Line Interface writes stored byte `k + 1` of the frame it receives into record `r`: into the
chain's cell where the chain holds it, and otherwise into a cell taken from the head of the free cell list; with no
free cell the record is exhausted and gives back every cell of its chain. -/
def Pool.storeByte (p : Pool) (r : Handle) (rec : FrameRecord) (k : Nat) (b : Byte) : Pool :=
  if k / Config.cellBytes < rec.chain.length then { p with store := writeChainByte p.store rec.chain k b }
  else
    match p.freeCells with
    | [] =>
      { p with
        records := p.records.set r (some { rec with exhausted := some true, chain := [] })
        freeCells := rec.chain }
    | c :: rest =>
      let chain := rec.chain ++ [c]
      { p with
        records := p.records.set r (some { rec with chain := chain })
        freeCells := rest
        store := writeChainByte p.store chain k b }

/-- Whether the Line Interface still writes the bytes of a record's frame: not once it is exhausted (R74). -/
def FrameRecord.storable (rec : FrameRecord) : Bool := rec.exhausted = some false

/-- The bytes that a full chain of 12 cells holds; the bytes after them are not written (R72). -/
def chainCapacity : Nat := Config.chainCells * Config.cellBytes

/-- Stored byte `k + 1` of a reception is due to be written (R72, R87). -/
def State.storeReceived (s : State) (m : ReceptionMode) (k : Nat) (b : Byte) : State :=
  match m with
  | .ignoring => s
  | .storing r =>
    match s.record r with
    | none => s
    | some rec =>
      if rec.storable && k < chainCapacity then { s with pool := s.pool.storeByte r rec k b } else s

/-- The reception after a whole byte (R87), with the byte four places earlier once there is one. -/
def Reception.push (x : Reception) (b : Byte) : Reception × Option Byte :=
  let y := { x with received := x.received + 1 }
  match x.recent with
  | e :: rest =>
    if rest.length < 3 then ({ y with recent := x.recent ++ [b] }, none)
    else ({ y with recent := rest ++ [b], check := crcByte x.check e }, some e)
  | [] => ({ y with recent := [b] }, none)

/-- A whole byte is received during a reception (R87) (without effect elsewhere DEDUCED, notes/assumptions/8). -/
def byteReceived (b : Byte) (s : State) : State :=
  match s.line.reception with
  | none => s
  | some x =>
    match x.push b with
    | (y, none) => s.setReception (some y)
    | (y, some e) => (s.storeReceived x.mode (x.received - 4) e).setReception (some y)

/-- Whether the arrival of the next whole byte must write the first byte of a new cell (R72). -/
def State.cellNeeded (s : State) : Bool :=
  match s.line.reception with
  | none => false
  | some x =>
    match x.mode with
    | .ignoring => false
    | .storing r =>
      match s.record r with
      | none => false
      | some rec =>
        let k := x.received - 4
        decide (x.recent.length = 4) && rec.storable && decide (k < chainCapacity) &&
          decide (rec.chain.length ≤ k / Config.cellBytes)

/-- The arrival of a byte that makes the reception write the first byte of a new cell (R72, R74); where the arrival
would write no such byte, this event does not take place (DEDUCED, notes/assumptions/9). -/
def cellNeedMet (b : Byte) (s : State) : State := if s.cellNeeded then byteReceived b s else s

/-- The PHY marks a receive error during a reception (R87) (without effect elsewhere DEDUCED, notes/assumptions/8). -/
def errorMarked (s : State) : State :=
  match s.line.reception with
  | none => s
  | some x => s.setReception (some { x with errorSeen := true })

/-! ### Classification (R93 to R99) -/

/-- The destination address of a stored frame, its stored bytes 1 to 6, and its source, bytes 7 to 12. -/
def destinationOf (bytes : List Byte) : Address := addressAt bytes 0
def sourceOf (bytes : List Byte) : Address := addressAt bytes 6

/-- What the Classifier finds for a destination (R94 to R97): a class with its matched entry, sleep action and
targets, or that no host is a target. -/
inductive Destination where
  | deliver (cls : FrameClass) (matched : Option Index) (action : SleepAction) (targets : List HostId)
  | groupUnmatched
  | unknownDiscarded
deriving DecidableEq, Repr

/-- The destination class and target set of a line frame (R94 to R97). The action stands for a call's sleep action
with UNICAST_MATCH alone. -/
def State.classifyLine (s : State) (dest : Address) : Destination :=
  if dest = broadcastAddress then .deliver .broadcast none .hold s.attachedHosts
  else if isGroupAddress dest then
    match s.groupAt dest with
    | some (i, g) => .deliver .groupMatch (some i) .hold g.members.members
    | none => .groupUnmatched
  else
    match s.boundAt dest with
    | some (i, c) => .deliver .unicastMatch (some i) c.action [c.owner]
    | none =>
      match s.accord.config.unknown with
      | .discard => .unknownDiscarded
      | .defaultHost h => if s.attached h then .deliver .default none .hold [h] else .unknownDiscarded

/-- A record's class and matched entry set, and the matched entry's hit count raised, where some host is a target
(R93, R146). -/
def State.markMatch (s : State) (r : Handle) (cls : FrameClass) (matched : Option Index) (targets : List HostId) :
    State :=
  let t := if targets.isEmpty then s else s.setClass r cls (matched.map s.entryRef)
  match matched with
  | some i => t.raiseHits i
  | none => t

/-- The Classifier's work at the end of a good frame in record `r` whose source and destination are given, up to the
close (R93, R98, R99). -/
def State.classify (s : State) (r : Handle) (source dest : Address) : State :=
  let t := s.observeSource source
  match t.classifyLine dest with
  | .deliver cls matched action targets =>
    let u := t.markMatch r cls matched targets
    let v := u.deliverAll targets
      { handle := r, cls := cls, matched := matched.map u.entryRef, action := action }
    if v.2 = 0 then v.1.countDevice (fun d => { d with noTaker := bump d.noTaker }) else v.1
  | .groupUnmatched => t.countDevice (fun d => { d with groupUnmatched := bump d.groupUnmatched })
  | .unknownDiscarded => t.countDevice (fun d => { d with unknownDiscarded := bump d.unknownDiscarded })

/-! ### The end of a reception (R88 to R91) -/

/-- The outcomes of a reception in STORING (R88, R90, R91). -/
inductive RxOutcome where
  | runt | giant | badCheck | good | lineLost | lineDisabled
deriving DecidableEq, Repr

/-- The integrity outcome at the wire frame end (R88). -/
def Reception.outcome (x : Reception) : RxOutcome :=
  if x.received < 64 then .runt
  else if 1518 < x.received then .giant
  else if x.errorSeen || crcBytes x.check != x.recent then .badCheck
  else .good

/-- The device counter an outcome raises (R89). -/
def DeviceCounters.count (d : DeviceCounters) : RxOutcome → DeviceCounters
  | .runt => { d with runt := bump d.runt }
  | .giant => { d with giant := bump d.giant }
  | .badCheck => { d with badCheck := bump d.badCheck }
  | .good => { d with lineGood := bump d.lineGood }
  | .lineLost => { d with lineLost := bump d.lineLost }
  | .lineDisabled => { d with lineDisabled := bump d.lineDisabled }

/-- The record of a good frame at its end: its length set, and no longer receiving (R89, R67). -/
def State.finishRecord (s : State) (r : Handle) (length : Nat) : State :=
  match s.record r with
  | some rec => s.setRecord r (some { rec with length := some length, exhausted := none })
  | none => s

/-- A reception in STORING into record `r` settled under an outcome (R89): a GOOD frame of a record that is not
exhausted is classified; the receiving reference is dropped in every case. -/
def State.settleReception (s : State) (r : Handle) (received : Nat) (o : RxOutcome) : State :=
  if (s.record r).any (fun rec => rec.exhausted = some true) then
    (s.countDevice (fun d => { d with noCells := bump d.noCells })).dropRef r
  else
    let t := s.countDevice (·.count o)
    match o with
    | .good =>
      let u := t.finishRecord r (received - 4)
      let bytes := u.frameBytes r
      (u.classify r (sourceOf bytes) (destinationOf bytes)).dropRef r
    | .runt | .giant | .badCheck | .lineLost | .lineDisabled => t.dropRef r

/-- The end of a reception `x` under an outcome for STORING: the receiver returns to IDLE (R89, R90). -/
def State.endReception (s : State) (x : Reception) (o : RxOutcome) : State :=
  let t := s.setReception none
  match x.mode with
  | .ignoring => t
  | .storing r => t.settleReception r x.received o

/-- WIRE_FRAME_END (R88, R89) (without a reception DEDUCED, notes/assumptions/8). -/
def wireFrameEnded (s : State) : State :=
  match s.line.reception with
  | none => s
  | some x => s.endReception x x.outcome

/-- An applied disable ends a STORING reception's frame with LINE_DISABLED, and the reception becomes IGNORING
(R91). -/
def State.disableReception (s : State) : State :=
  match s.line.reception with
  | some x =>
    match x.mode with
    | .storing r =>
      (s.setReception (some { x with mode := .ignoring })).settleReception r x.received .lineDisabled
    | .ignoring => s
  | none => s

/-! ### Line events (R82, R83, R90) -/

/-- A line-up event (R82, R83); it finds the line DOWN (without effect elsewhere DEDUCED, notes/assumptions/8). -/
def lineWentUp (s : State) : State :=
  if s.line.up then s
  else
    let t := { s with line := { s.line with up := true, link := true, lastChange := some s.stamp } }
    t.notifyAll t.attachedHosts .lineUp

/-- The line state's part of a line-down event (R82). -/
def State.lineFalls (s : State) : State :=
  { s with line := { s.line with up := false, link := false, lastChange := some s.stamp } }

/-- The reception's part of a line-down event (R90). -/
def State.loseReception (s : State) : State :=
  match s.line.reception with
  | some x => s.endReception x .lineLost
  | none => s

/-- The receiver's code in LINE_STATUS. -/
def Line.receiverCode (l : Line) : Nat :=
  match l.reception with
  | none => 0
  | some x =>
    match x.mode with
    | .storing _ => 1
    | .ignoring => 2

/-- The default host of a policy. -/
def UnknownPolicy.host : UnknownPolicy → Option HostId
  | .discard => none
  | .defaultHost h => some h

/-- LINE_STATUS (R103) (0 for default host attached without one DEDUCED, notes/assumptions/13). -/
def lineStatusRequest (h : HostId) (_p : List Byte) (s : State) : State × Reply :=
  if s.asleep h then refused s .asleep
  else
    accepted s
      ([byte (boolCode s.line.up), byte (boolCode s.line.lastChange.isSome)] ++ zeroWord s.line.lastChange ++
        [byte (boolCode s.accord.config.lineEnable), byte s.line.receiverCode, byte (boolCode s.sending)] ++
        unknownPolicyBytes s.accord.config.unknown ++
        [byte (boolCode (s.accord.config.unknown.host.any s.attached))])

end Sys2Proof.Machine
end

