-- ==== Sys2Proof/Machine/Transmit.lean ====
section
/-! DEFINITION. The Transmit Arbiter (chapter 8, with R12 and R75): submission, the grant, local switching, line
transmission, the end of a frame's handling, and completions. -/

namespace Sys2Proof.Machine

/-! ### Submission (R143, R144) -/

/-- The record an accepted SUBMIT takes (R68). -/
def State.submittedRecord (s : State) (h : HostId) (length : Nat) (chain : List CellId) : FrameRecord where
  origin := .host h
  stamp := s.stamp
  chain := chain
  exhausted := none
  length := some length
  cls := none
  matched := none
  refs := 1

/-- The pool's part of an accepted SUBMIT: record `r` and the cells the frame needs are taken, and the frame's bytes
are copied into them (R68, R144). -/
def State.storeFrame (s : State) (h : HostId) (r : Handle) (rest : List Handle) (frame : List Byte) : State :=
  let n := cellsFor frame.length
  let chain := s.pool.freeCells.take n
  { s with pool :=
    { s.pool with
      records := s.pool.records.set r (some (s.submittedRecord h frame.length chain))
      freeRecords := rest
      freeCells := s.pool.freeCells.drop n
      store := writeChain s.pool.store chain 0 frame } }

/-- An accepted SUBMIT (R144), with the entry that the holding lookup found. -/
def State.acceptFrame (s : State) (h : HostId) (i : Index) (r : Handle) (rest : List Handle) (frame : List Byte) :
    State × Reply :=
  let q := s.tx h
  let seq := q.nextSequence.getD 0
  let t := (s.storeFrame h r rest frame).markActivity i
  let u := t.setTx h
    { q with queue := q.queue ++ [{ handle := r, sequence := seq }], nextSequence := some (seq + 1) }
  accepted (u.countHost h (fun c => { c with submitted := bump c.submitted }))
    (word16Bytes seq ++ [byte (q.queue.length + 1)])

/-- A SUBMIT refused at one of checks 2 to 7 (R143): TX_REFUSED is raised. -/
def State.refuseFrame (s : State) (h : HostId) (st : Status) : State × Reply :=
  (s.countHost h (fun c => { c with txRefused := bump c.txRefused }), { status := st, payload := [] })

/-- SUBMIT (R143, R144, R75): the parameters are the frame's stored bytes. -/
def submitRequest (h : HostId) (p : List Byte) (s : State) : State × Reply :=
  if s.asleep h then refused s .asleep
  else if p.length < Config.minFrame ∨ Config.maxFrame < p.length then s.refuseFrame h .badValue
  else
    match s.holding h (sourceOf p) with
    | none => s.refuseFrame h .sourceNotHeld
    | some (i, _) =>
      if (s.holding h (destinationOf p)).isSome then s.refuseFrame h .selfDestined
      else if Config.transmitQueueSize ≤ (s.tx h).queue.length then s.refuseFrame h .txQueueFull
      else if s.pool.freeRecords.length ≤ Config.handleReserve then s.refuseFrame h .noHandle
      else
        match s.pool.freeRecords with
        | [] => s.refuseFrame h .noHandle
        | r :: rest =>
          if s.pool.freeCells.length < cellsFor p.length + Config.receiveReserve then s.refuseFrame h .noCells
          else s.acceptFrame h i r rest p

/-! ### The end of a frame's handling (R151) -/

/-- The completion record appended to the sender's ring, unless the frame is marked for discard. -/
def State.recordCompletion (s : State) (f : OnPath) (o : TxOutcome) : State :=
  if f.discard then s
  else
    let q := s.tx f.sender
    s.setTx f.sender
      { q with ring := q.ring ++ [{ sequence := f.sequence, outcome := o, delivered := f.delivered }] }

/-- The end of handling of frame `f` with an outcome (R151): the completion, the path reference, the path IDLE. -/
def State.endHandling (s : State) (f : OnPath) (o : TxOutcome) : State :=
  ((s.recordCompletion f o).dropRef f.handle).setPath none

/-! ### The grant (R145 to R148) -/

/-- Whether a host is eligible (R145). -/
def TxHost.eligible (t : TxHost) : Bool := !t.queue.isEmpty && t.ring.length < Config.completionRingSize

/-- The hosts in the circular order that begins after host `h` and ends with it (R145). -/
def circleAfter (h : HostId) : List HostId := [h.succ, h.succ.succ, h.succ.succ.succ, h]

/-- The host a grant chooses: the first eligible one after the last granted host (R145). -/
def Arbiter.choice (a : Arbiter) : Option HostId :=
  (circleAfter a.lastGranted).find? (fun h => (a.hosts.get h).eligible)

/-- How a granted frame goes on: the outcome with which a frame without a line part ends, or a line part (R146). -/
inductive LinePart where
  | none (o : TxOutcome)
  | line
deriving DecidableEq, Repr

/-- What the arbiter finds for the destination of a frame of host `h` (R146): the class, if the frame has one, its
matched entry, its sleep action, its local targets, and its line part. -/
structure Route where
  cls : Option FrameClass
  matched : Option Index
  action : SleepAction
  targets : List HostId
  linePart : LinePart
deriving DecidableEq, Repr

/-- The route of a frame for the line alone. -/
def Route.lineOnly : Route := { cls := none, matched := none, action := .hold, targets := [], linePart := .line }

/-- The route of a frame of host `h` to a destination, by the table as it stands at the grant (R146). -/
def State.route (s : State) (h : HostId) (dest : Address) : Route :=
  if dest = broadcastAddress then
    { cls := some .broadcast, matched := none, action := .hold, targets := s.attachedHosts.filter (· ≠ h),
      linePart := .line }
  else if isGroupAddress dest then
    match s.groupAt dest with
    | some (i, g) =>
      { cls := some .groupMatch, matched := some i, action := .hold, targets := g.members.members.filter (· ≠ h),
        linePart := .line }
    | none => .lineOnly
  else
    match s.boundAt dest with
    | some (i, c) =>
      if c.owner = h then
        { cls := none, matched := none, action := .hold, targets := [], linePart := .none .selfDestined }
      else
        { cls := some .localSwitch, matched := some i, action := c.action, targets := [c.owner],
          linePart := .none .localSwitch }
    | none => .lineOnly

/-- A granted frame's line part (R148), after its local deliveries: the handling ends at the grant, or the
transmitter is SENDING and the path BUSY. -/
def State.giveToLine (s : State) (f : OnPath) (l : LinePart) : State :=
  match l with
  | .none o => s.endHandling f o
  | .line =>
    if !s.line.up then s.endHandling f .lineDown
    else if !s.accord.config.lineEnable then s.endHandling f .lineDisabled
    else s.setPath (some f)

/-- The local deliveries of a frame by its route, with the number that placed it (R146, R147). -/
def State.switchLocally (s : State) (r : Handle) (x : Route) : State × Nat :=
  match x.cls with
  | none => (s, 0)
  | some cls =>
    let t := s.markMatch r cls x.matched x.targets
    t.deliverAll x.targets { handle := r, cls := cls, matched := x.matched.map t.entryRef, action := x.action }

/-- The grant to host `h` of its head position `p` (R145 to R148). The queue position's reference becomes the path
reference, so the record's count is unchanged by it (R70). -/
def State.grantTo (s : State) (h : HostId) (p : TxPosition) (rest : List TxPosition) : State :=
  let t := s.setTx h { s.tx h with queue := rest }
  let u := { t with arbiter := { t.arbiter with lastGranted := h } }
  let x := u.route h (destinationOf (u.frameBytes p.handle))
  let v := u.switchLocally p.handle x
  v.1.giveToLine { handle := p.handle, sender := h, sequence := p.sequence, delivered := v.2, discard := false }
    x.linePart

/-- GRANT (R145): with the path IDLE and a host eligible (without effect elsewhere DEDUCED, notes/assumptions/15). -/
def granted (s : State) : State :=
  if s.arbiter.path.isSome then s
  else
    match s.arbiter.choice with
    | none => s
    | some h =>
      match (s.tx h).queue with
      | [] => s
      | p :: rest => s.grantTo h p rest

/-! ### Line transmission (R149, R150) -/

/-- SEND_COMPLETION (R149): the frame's handling ends SENT, and TX_SENT is raised (without effect in IDLE DEDUCED,
notes/assumptions/15). -/
def sendCompleted (s : State) : State :=
  match s.arbiter.path with
  | none => s
  | some f => (s.countDevice (fun d => { d with txSent := bump d.txSent })).endHandling f .sent

/-- The transmission's part of a line-down event (R150). -/
def State.loseTransmission (s : State) : State :=
  match s.arbiter.path with
  | none => s
  | some f => s.endHandling f .lineLost

/-- A line-down event (R82, R83, R90, R150); it finds the line UP (without effect elsewhere DEDUCED,
notes/assumptions/8; the order of freeing, 10). -/
def lineWentDown (s : State) : State :=
  if s.line.up then
    let t := s.lineFalls.loseReception.loseTransmission
    t.notifyAll t.attachedHosts .lineDown
  else s

/-! ### Completions (R153) -/

/-- READ_COMPLETIONS (R153). -/
def readCompletionsRequest (h : HostId) (_p : List Byte) (s : State) : State × Reply :=
  if s.asleep h then refused s .asleep
  else
    let q := s.tx h
    let onPath := s.arbiter.path.any (fun f => f.sender = h && !f.discard)
    accepted (s.setTx h { q with ring := [] })
      ([byte q.queue.length, byte (boolCode onPath)] ++ zeroWord q.nextSequence ++ [byte q.ring.length] ++
        q.ring.flatMap completionBytes)

/-- The transmit side at the detach of host `h` (R155): its queue and ring are emptied, its next sequence number
ceases to be kept, and its frame on the path is marked for discard. -/
def State.detachTransmit (s : State) (h : HostId) : State :=
  let queued := (s.tx h).queue.map (·.handle)
  let t := (s.setTx h { queue := [], ring := [], nextSequence := none }).dropRefs queued
  t.setPath (t.arbiter.path.map (fun f => if f.sender = h then { f with discard := true } else f))

end Sys2Proof.Machine
end

