-- ==== Sys2Proof/Machine/AccordUnit.lean ====
section
/-! DEFINITION. The Accord Unit (chapter 9): proposals, votes, the ends of a proposal and the application. -/

namespace Sys2Proof.Machine

/-- `s` with the Accord Unit's state replaced. -/
def State.setAccord (s : State) (a : Accord) : State := { s with accord := a }

/-- The hosts that vote on a proposal, in ascending order. -/
def Proposal.voters (p : Proposal) : List HostId := HostId.all.filter (fun h => (p.votes.get h).isSome)

/-- Whether every voter of a proposal has endorsed it; so too without a voter (R163, R167). -/
def Proposal.agreed (p : Proposal) : Bool := HostId.all.all (fun h => p.votes.get h ≠ some .outstanding)

/-- ACCORD_OUTCOME queued for the proposer and the voters that are attached (R169). -/
def State.notifyOutcome (s : State) (p : Proposal) (o : AccordOutcome) (declining : Option HostId) : State :=
  s.notifyAll (HostId.all.filter (fun h => h = p.proposer || (p.votes.get h).isSome))
    (.accordOutcome o p.serial declining)

/-- The end of a proposal without application: no proposal is pending, and the outcome is reported (R164 to R167). -/
def State.endProposal (s : State) (p : Proposal) (o : AccordOutcome) (declining : Option HostId) : State :=
  (s.setAccord { s.accord with proposal := none }).notifyOutcome p o declining

/-- The application of a proposal (R168), with the end of a reception where it disables the line (R91). -/
def State.applyProposal (s : State) (p : Proposal) : State :=
  let disables := s.accord.config.lineEnable && !p.record.lineEnable
  let gen := s.accord.generation + 1
  let t := s.setAccord { s.accord with config := p.record, generation := gen, proposal := none }
  let u := t.notifyOutcome p .applied none
  let v := u.notifyAll u.attachedHosts (.configApplied gen)
  if disables then v.disableReception else v

/-- READ_CONFIG (R159). -/
def readConfigRequest (h : HostId) (_p : List Byte) (s : State) : State × Reply :=
  if s.asleep h then refused s .asleep else accepted s (accordBytes s.accord)

/-- The proposal an accepted PROPOSE forms (R162): every other attached host is a voter, its vote outstanding. -/
def State.newProposal (s : State) (h : HostId) (r : ConfigRecord) : Proposal :=
  let vote (v : HostId) : Option Vote := if v ≠ h ∧ s.attached v then some .outstanding else none
  { proposer := h
    serial := s.accord.lastSerial + 1
    base := s.accord.generation
    record := r
    votes := { h0 := vote .h0, h1 := vote .h1, h2 := vote .h2, h3 := vote .h3 }
    window := s.accord.config.accordWindow }

/-- PROPOSE (R161, R162): applied at once when there is no voter, and otherwise put to the voters. -/
def proposeRequest (h : HostId) (p : List Byte) (s : State) : State × Reply :=
  if s.asleep h then refused s .asleep
  else if s.accord.proposal.isSome then refused s .accordBusy
  else if word16At p 0 ≠ s.accord.generation then
    (s, { status := .stale, payload := word16Bytes s.accord.generation })
  else
    match configRecordOf (p.drop 2) with
    | none => refused s .badValue
    | some r =>
      let q := s.newProposal h r
      let t := s.setAccord { s.accord with lastSerial := q.serial, proposal := some q }
      if q.voters.isEmpty then
        let u := t.applyProposal q
        accepted u (word16Bytes q.serial ++ [byte (boolCode true)] ++ word16Bytes u.accord.generation)
      else
        accepted (t.notifyAll q.voters (.accordRequest h q.serial))
          (word16Bytes q.serial ++ [byte (boolCode false)])

/-- The pending proposal that carries a serial. -/
def State.proposalOf (s : State) (serial : Word16) : Option Proposal :=
  s.accord.proposal.filter (fun p => p.serial = serial)

/-- ENDORSE (R163). -/
def endorseRequest (h : HostId) (p : List Byte) (s : State) : State × Reply :=
  if s.asleep h then refused s .asleep
  else
    match s.proposalOf (word16At p 0) with
    | none => refused s .noProposal
    | some q =>
      match q.votes.get h with
      | none => refused s .notVoter
      | some .endorsed => refused s .alreadyVoted
      | some .outstanding =>
        let r := { q with votes := q.votes.set h (some .endorsed) }
        let t := s.setAccord { s.accord with proposal := some r }
        if r.agreed then accepted (t.applyProposal r) [byte (boolCode true)]
        else accepted t [byte (boolCode false)]

/-- DECLINE (R164). -/
def declineRequest (h : HostId) (p : List Byte) (s : State) : State × Reply :=
  if s.asleep h then refused s .asleep
  else
    match s.proposalOf (word16At p 0) with
    | none => refused s .noProposal
    | some q =>
      match q.votes.get h with
      | none => refused s .notVoter
      | some .endorsed => refused s .alreadyVoted
      | some .outstanding => accepted (s.endProposal q .declined (some h)) []

/-- WITHDRAW (R165). -/
def withdrawRequest (h : HostId) (p : List Byte) (s : State) : State × Reply :=
  if s.asleep h then refused s .asleep
  else
    match (s.proposalOf (word16At p 0)).filter (fun q => q.proposer = h) with
    | none => refused s .noProposal
    | some q => accepted (s.endProposal q .withdrawn none) []

/-- Expiry of the accord window (R166). -/
def accordWindowExpired (s : State) : State :=
  match s.accord.proposal with
  | none => s
  | some q => if q.window = 0 then s.endProposal q .lapsed none else s

/-- The Accord Unit at the detach of host `h`, which is DETACHED already (R167). -/
def State.detachAccord (s : State) (h : HostId) : State :=
  match s.accord.proposal with
  | none => s
  | some q =>
    if q.proposer = h then s.endProposal q .withdrawn none
    else if (q.votes.get h).isSome then
      let r := { q with votes := q.votes.set h none }
      let t := s.setAccord { s.accord with proposal := some r }
      if r.agreed then t.applyProposal r else t
    else s

/-- The Accord Unit's window at a tick event (R166). -/
def Accord.tick (a : Accord) : Accord :=
  { a with proposal := a.proposal.map (fun q => { q with window := q.window - 1 }) }

end Sys2Proof.Machine
end

