-- ==== Sys2Proof/Machine/HostPorts.lean ====
section
/-! DEFINITION. The Host Port Controllers' own part (chapter 10): attachment and detach, identity, notices, the mask,
counters, the port reset input and device reset; and the Tick Unit (chapter 3). -/

namespace Sys2Proof.Machine

/-! ### Attachment (R178) -/

/-- The context of a host at the acceptance of its ATTACH (R123, R178). The lists and the charge stay as a DETACHED
host has them, empty and 0. -/
def HostCtx.attach (c : HostCtx) : HostCtx :=
  { c with
    reach := .awake
    params := .initial
    wake := some .cleared
    counters := .zero
    notices := []
    lost := 0
    mask := some fullMask }

/-- ATTACH (R178). -/
def attachRequest (h : HostId) (_p : List Byte) (s : State) : State × Reply :=
  accepted
    ((s.setHost h (s.host h).attach).setTx h { s.tx h with nextSequence := some 0 })
    (byte h.toNat :: word16Bytes s.accord.generation)

/-! ### Detach (R179) -/

/-- The context of a host after its detach: DETACHED, its lists, notices and timers gone, its mask and wake cause
record not kept (R119, R141, R179). -/
def HostCtx.detach (c : HostCtx) : HostCtx :=
  { c with
    reach := .detached
    depth := none
    alarm := none
    attempt := none
    attemptTimer := none
    restTimer := none
    wake := none
    rxQueue := []
    holdList := []
    charge := 0
    dozeTimer := none
    delayReached := false
    notices := []
    lost := 0
    mask := none }

/-- The host's own state at its detach: every position of its lists releases its reference (R119, R81) (the order of
freeing DEDUCED, notes/assumptions/10). -/
def State.detachHost (s : State) (h : HostId) : State :=
  let c := s.host h
  (s.setHost h c.detach).dropRefs (c.rxQueue.map (·.handle) ++ c.holdList.map (·.handle))

/-- The port's last detach cause set (R179). -/
def State.setDetachCause (s : State) (h : HostId) (cause : DetachCause) : State :=
  s.setPort h { s.port h with lastDetach := some cause }

/-- The detach clean-up (R179): the table, the host's lists, its transmit side, and then a pending proposal, so that
notices to one other host come in the order R179 gives. -/
def State.cleanUp (s : State) (h : HostId) (cause : DetachCause) : State :=
  ((((s.detachTable h).detachHost h).detachTransmit h).detachAccord h).setDetachCause h cause

/-- DETACH (R179). -/
def detachRequest (h : HostId) (_p : List Byte) (s : State) : State × Reply := accepted (s.cleanUp h .command) []

/-! ### Identity (R180) -/

/-- IDENTIFY (R180, section 11.9). -/
def identifyRequest (h : HostId) (_p : List Byte) (s : State) : State × Reply :=
  accepted s
    (word16Bytes Config.vendorCode ++ word16Bytes Config.partCode ++
      [Config.revision, byte h.toNat, byte (s.host h).reach.code, byte (resetCauseCode s.resetCause),
        markedByte ((s.port h).lastDetach.map DetachCause.code)] ++
      word16Bytes s.accord.generation ++ word32Bytes s.tick.count)

/-! ### Notices and the mask (R183, R184) -/

/-- READ_NOTICES (R183). -/
def readNoticesRequest (h : HostId) (_p : List Byte) (s : State) : State × Reply :=
  let c := s.host h
  accepted (s.setHost h { c with notices := [], lost := 0 })
    ([byte c.lost, byte c.notices.length] ++ c.notices.flatMap noticeBytes)

/-- SET_NOTICE_MASK (R184, R187): bit 15 is no member. -/
def setNoticeMaskRequest (h : HostId) (p : List Byte) (s : State) : State × Reply :=
  let m := word16At p 0
  if s.asleep h then refused s .asleep
  else if m.msb then refused s .badValue
  else accepted (s.setHost h { s.host h with mask := some m }) (word16Bytes m)

/-! ### Counters (R185) and the tick count (R52) -/

/-- READ_COUNTERS (R185, section 11.9). -/
def readCountersRequest (h : HostId) (_p : List Byte) (s : State) : State × Reply :=
  if s.asleep h then refused s .asleep
  else
    accepted s
      (deviceCounterBytes s.line.counters ++ hostCounterBytes (s.host h).counters ++ word32Bytes s.tick.count)

/-- CLEAR_COUNTERS (R185). -/
def clearCountersRequest (h : HostId) (_p : List Byte) (s : State) : State × Reply :=
  if s.asleep h then refused s .asleep else accepted (s.countHost h (fun _ => .zero)) []

/-- READ_TICK (R52). -/
def readTickRequest (_h : HostId) (_p : List Byte) (s : State) : State × Reply :=
  accepted s
    (word32Bytes s.tick.count ++ [byte s.tick.period.code, byte s.accord.config.tickPeriod.code])

/-! ### Tick events (R49 to R53) -/

/-- A tick event: the tick count raised, the next interval begun with the active tick period, and every running timer
lowered. The expiries it brings about are events of their own. -/
def ticked (s : State) : State :=
  { s with
    tick := { count := s.tick.count + 1, period := s.accord.config.tickPeriod }
    table := mapVector s.table Entry.tick
    hosts := s.hosts.map HostCtx.tick
    accord := s.accord.tick }

/-! ### The port reset input (R177) -/

/-- A port with its transaction aborted: phase IDLE and both buffers empty (R171, R177). -/
def Port.abort (p : Port) : Port := { p with phase := .idle, request := [], response := [], shifted := 0 }

/-- The assertion of a port reset input (R177). -/
def portResetAsserted (h : HostId) (s : State) : State :=
  let t := s.setPort h { (s.port h).abort with held := true }
  if t.attached h then t.cleanUp h .portReset else t

/-- The level of a port reset input, whatever else takes place. -/
def State.setHeld (s : State) (h : HostId) (b : Bool) : State := s.setPort h { s.port h with held := b }

/-! ### Device reset (R181) -/

/-- Every block in its reset state, with the levels of the input pins, the reset in progress, its last cause and the
waiting commands as they are (R181) (DEDUCED, notes/assumptions/7). -/
def State.blocksReset (s : State) : State :=
  { State.reset with
    resetting := s.resetting
    resetCause := s.resetCause
    line := .reset s.line.link
    ports := s.ports.map (fun p => .reset p.held)
    pending := s.pending }

/-- The kind of the reset in progress after DEVICE_RESET: one that began with power-on stays so (R181). -/
def resetKind (running : Option ResetCause) (cause : ResetCause) : ResetCause :=
  if running = some .powerOn then .powerOn else cause

/-- DEVICE_RESET (R181): the part takes no further event until the reset ends. -/
def deviceResetBegun (cause : ResetCause) (s : State) : State :=
  { s.blocksReset with resetting := some (resetKind s.resetting cause) }

/-- RESET_END (R181, R82): every block holds its reset state, the last device reset cause is set, and the link
indication is read. -/
def deviceResetEnded (s : State) : State :=
  match s.resetting with
  | none => s
  | some cause =>
    let t := { s.blocksReset with resetting := none, resetCause := cause }
    if t.line.link then lineWentUp t else t

end Sys2Proof.Machine
end

