-- ==== Sys2Proof/Machine/Transactions.lean ====
section
/-! DEFINITION. The transaction on a host port (R171 to R176): the bytes of a request, the event at which it is taken,
the generic refusals, and the block that answers each command. -/

namespace Sys2Proof.Machine

/-- The answer of the block that owns a command (10, table of commands) to its parameters. -/
def serve (h : HostId) (c : Command) (p : List Byte) (s : State) : State × Reply :=
  match c with
  | .attach => attachRequest h p s
  | .detach => detachRequest h p s
  | .identify => identifyRequest h p s
  | .readNotices => readNoticesRequest h p s
  | .setNoticeMask => setNoticeMaskRequest h p s
  | .readCounters => readCountersRequest h p s
  | .clearCounters => clearCountersRequest h p s
  | .readTick => readTickRequest h p s
  | .stage => stageRequest h p s
  | .bind => bindRequest h p s
  | .yield => yieldRequest h p s
  | .setAction => setActionRequest h p s
  | .join => joinRequest h p s
  | .leave => leaveRequest h p s
  | .offer => offerRequest h p s
  | .accept => acceptRequest h p s
  | .refuse => refuseRequest h p s
  | .retract => retractRequest h p s
  | .renew => renewRequest h p s
  | .lookup => lookupRequest h p s
  | .listHeld => listHeldRequest h p s
  | .poolStatus => poolStatusRequest h p s
  | .lineStatus => lineStatusRequest h p s
  | .readFrame => readFrameRequest h p s
  | .ackFrame => ackFrameRequest h p s
  | .queueStatus => queueStatusRequest h p s
  | .doze => dozeRequest h p s
  | .sleep => sleepRequest h p s
  | .resume => resumeRequest h p s
  | .readWake => readWakeRequest h p s
  | .setHostParams => setHostParamsRequest h p s
  | .submit => submitRequest h p s
  | .readCompletions => readCompletionsRequest h p s
  | .readConfig => readConfigRequest h p s
  | .propose => proposeRequest h p s
  | .endorse => endorseRequest h p s
  | .decline => declineRequest h p s
  | .withdraw => withdrawRequest h p s

/-- Whether a request is one taken at its header, its parameter length above 1,530 (R172). -/
def takenAtHeader (req : List Byte) : Bool := Config.maxParameters < requestLength req

/-- Whether a command is taken from a DETACHED host (R173, check 4). -/
def Command.needsAttachment : Command → Bool
  | .attach | .identify => false
  | _ => true

/-- The generic checks of R173 on a request taken on the port of host `h`: the command that passes them, or the status
of the first that fails. -/
def genericCheck (s : State) (h : HostId) (req : List Byte) : Except Status Command :=
  if takenAtHeader req then .error .format
  else if byteSum req ≠ 0 then .error .check
  else
    match Command.ofCode (byteAt req 0) with
    | none => .error .unknownCommand
    | some c =>
      if !c.admitsLength (requestLength req) then .error .format
      else if !s.attached h && c.needsAttachment then .error .notAttached
      else if s.attached h && c = .attach then .error .alreadyAttached
      else .ok c

/-- What a request taken comes to (R173, R174). -/
def State.answer (s : State) (h : HostId) (req : List Byte) : State × Reply :=
  match genericCheck s h req with
  | .error st => refused s st
  | .ok c => serve h c (requestParams req) s

/-- The port in phase RESPONSE with its response, of which `extra` bytes have been shifted out (R171, R175). -/
def Port.respond (p : Port) (req : List Byte) (r : Reply) (extra : Nat) : Port :=
  let resp := responseBytes (requestTag req) r
  { p with phase := .response, request := req, response := resp, shifted := min extra resp.length }

/-- A request is taken: it has its whole effect, and its response is placed in the response buffer, at one event
(R172, R176). -/
def State.takeRequest (s : State) (h : HostId) (req : List Byte) (extra : Nat) : State :=
  let x := s.answer h req
  x.1.setPort h ((x.1.port h).respond req x.2 extra)

/-- Bytes completed on data in of the port of host `h` (R171): in REQUEST they go to the request buffer, and the request
is taken when R172 says it is complete; in RESPONSE they are ignored, and each shifts out a response byte; with no
transaction, with the port reset input asserted and while a reset lasts they are not stored (a row as a run of bytes
DEDUCED, notes/assumptions/1). -/
def State.shiftIn (s : State) (h : HostId) (bytes : List Byte) : State :=
  let p := s.port h
  if s.resetting.isSome || p.held then s
  else
    match p.phase with
    | .idle => s
    | .response => s.setPort h { p with shifted := min (p.shifted + bytes.length) p.response.length }
    | .request =>
      let buffer := p.request ++ bytes
      match requestEnd buffer with
      | none => s.setPort h { p with request := buffer }
      | some n => s.takeRequest h (buffer.take n) (buffer.length - n)

/-- Select asserted on the port of host `h` (R171, R177): in IDLE a transaction begins, with the request buffer empty
(without effect elsewhere DEDUCED, notes/assumptions/8). -/
def State.beginTransaction (s : State) (h : HostId) : State :=
  let p := s.port h
  if s.resetting.isSome || p.held then s
  else
    match p.phase with
    | .idle => s.setPort h { p.abort with phase := .request }
    | .request | .response => s

/-- Select released on the port of host `h` (R171, R176): the transaction ends, and what its buffers hold is lost (the
request buffer DEDUCED, notes/assumptions/18). -/
def State.endTransaction (s : State) (h : HostId) : State :=
  if s.resetting.isSome then s else s.setPort h (s.port h).abort

end Sys2Proof.Machine
end

