-- ==== Sys2Proof/Machine/Events.lean ====
section
/-! DEFINITION. The meanings of the events: on the port lines, at device reset, at a tick event and at the expiries it
brings about, on the line, and within the part. While a device reset lasts the part takes no event (R181). -/

namespace Sys2Proof.Machine

/-- An event's effect, which takes place unless a device reset lasts (R181). -/
def running (f : State → State) (s : State) : Host.Outcome State Fault Refusal :=
  .next (if s.resetting.isSome then s else f s)

/-- The level of the PHY's link indication, which is read when a device reset ends (R82). -/
def State.setLink (s : State) (b : Bool) : State := { s with line := { s.line with link := b } }

/-- SELECT_ASSERTED: begins a transaction (R171). -/
def execSelectAsserted (h : HostId) (s : State) : Host.Outcome State Fault Refusal :=
  .next (s.beginTransaction h)

/-- SELECT_RELEASED: ends the transaction on the port (R176). -/
def execSelectReleased (h : HostId) (s : State) : Host.Outcome State Fault Refusal :=
  .next (s.endTransaction h)

/-- PORT_RESET: the assertion of a port reset input (R177); while a reset lasts only its level is seen (R181). -/
def execPortReset (h : HostId) (s : State) : Host.Outcome State Fault Refusal :=
  .next (if s.resetting.isSome then s.setHeld h true else portResetAsserted h s)

/-- PORT_RESET_RELEASE: the controller works again, in phase IDLE (R177). -/
def execPortResetRelease (h : HostId) (s : State) : Host.Outcome State Fault Refusal :=
  .next (s.setHeld h false)

/-- DEVICE_RESET: a device reset begins (R181). -/
def execDeviceReset (cause : ResetCause) (s : State) : Host.Outcome State Fault Refusal :=
  .next (deviceResetBegun cause s)

/-- RESET_END: the device reset ends (R181). -/
def execResetEnd (s : State) : Host.Outcome State Fault Refusal :=
  .next (deviceResetEnded s)

/-- TICK: a tick event (R49, R51, R53). -/
def execTick (s : State) : Host.Outcome State Fault Refusal :=
  running ticked s

/-- PROBE_WINDOW_EXPIRY: expiry of the probe window of entry `i` (R25). -/
def execProbeWindowExpiry (i : Index) (s : State) : Host.Outcome State Fault Refusal :=
  running (probeWindowExpired i) s

/-- STAGE_HOLD_EXPIRY: expiry of the stage hold of entry `i` (R27). -/
def execStageHoldExpiry (i : Index) (s : State) : Host.Outcome State Fault Refusal :=
  running (stageHoldExpired i) s

/-- OFFER_EXPIRY: expiry of the offer of entry `i` (R42). -/
def execOfferExpiry (i : Index) (s : State) : Host.Outcome State Fault Refusal :=
  running (offerExpired i) s

/-- LEASE_RUN_OUT: run-out of the lease of entry `i` (R56, R58, R59). -/
def execLeaseRunOut (i : Index) (s : State) : Host.Outcome State Fault Refusal :=
  running (leaseRanOut i) s

/-- GRACE_EXPIRY: expiry of the grace of entry `i` (R60). -/
def execGraceExpiry (i : Index) (s : State) : Host.Outcome State Fault Refusal :=
  running (graceExpired i) s

/-- DOZE_DELAY_EXPIRY: expiry of the doze delay timer (R115). -/
def execDozeDelayExpiry (h : HostId) (s : State) : Host.Outcome State Fault Refusal :=
  running (dozeDelayExpired h) s

/-- ALARM_EXPIRY: expiry of the wake-after alarm (R126). -/
def execAlarmExpiry (h : HostId) (s : State) : Host.Outcome State Fault Refusal :=
  running (alarmExpired h) s

/-- ATTEMPT_EXPIRY: expiry of a wake attempt (R129, R131). -/
def execAttemptExpiry (h : HostId) (s : State) : Host.Outcome State Fault Refusal :=
  running (attemptExpired h) s

/-- REST_EXPIRY: expiry of the rest timer (R130). -/
def execRestExpiry (h : HostId) (s : State) : Host.Outcome State Fault Refusal :=
  running (restExpired h) s

/-- ACCORD_WINDOW_EXPIRY: expiry of the accord window (R166). -/
def execAccordWindowExpiry (s : State) : Host.Outcome State Fault Refusal :=
  running accordWindowExpired s

/-- LINE_UP_EVENT: the link indication rises (R82, R83); while a reset lasts only its level is seen. -/
def execLineUpEvent (s : State) : Host.Outcome State Fault Refusal :=
  .next (if s.resetting.isSome then s.setLink true else lineWentUp s)

/-- LINE_DOWN_EVENT: the link indication falls (R82, R83, R90, R150); while a reset lasts only its level is seen. -/
def execLineDownEvent (s : State) : Host.Outcome State Fault Refusal :=
  .next (if s.resetting.isSome then s.setLink false else lineWentDown s)

/-- FRAME_START: a frame start (R86, R73). -/
def execFrameStart (s : State) : Host.Outcome State Fault Refusal :=
  running frameStarted s

/-- RECEPTION_CELL_NEED: the whole byte `b` arrives and makes the reception write the first byte of a new cell (R72, R74). -/
def execReceptionCellNeed (b : Byte) (s : State) : Host.Outcome State Fault Refusal :=
  running (cellNeedMet b) s

/-- WIRE_FRAME_END: the wire frame end (R88, R89, R93). -/
def execWireFrameEnd (s : State) : Host.Outcome State Fault Refusal :=
  running wireFrameEnded s

/-- GRANT: a grant (R145 to R148). -/
def execGrant (s : State) : Host.Outcome State Fault Refusal :=
  running granted s

/-- SEND_COMPLETION: the send completion (R149, R151). -/
def execSendCompletion (s : State) : Host.Outcome State Fault Refusal :=
  running sendCompleted s

/-- WHOLE_BYTE_RECEIVED: a whole byte is received (R87, R72). -/
def execWholeByteReceived (b : Byte) (s : State) : Host.Outcome State Fault Refusal :=
  running (byteReceived b) s

/-- RECEIVE_ERROR_MARKED: the PHY marks a receive error (R87). -/
def execReceiveErrorMarked (s : State) : Host.Outcome State Fault Refusal :=
  running errorMarked s

end Sys2Proof.Machine
end

