-- ==== Sys2Proof/Machine/Requests.lean ====
section
/-! DEFINITION. The meanings of the host commands: the bytes of the row's request, its command code first, are shifted
in on the port of host `h`, and the request takes its effect at the event that completes it. What the command does
and answers is the definition that `serve` calls for it. -/

namespace Sys2Proof.Machine

/-- The outcome of bytes shifted in on a port. -/
def shifted (h : HostId) (bytes : List Byte) (s : State) : Host.Outcome State Fault Refusal :=
  .next (s.shiftIn h bytes)

/-- ATTACH: `attachRequest` (R178). -/
def execAttach (h : HostId) (bytes : List Byte) (s : State) : Host.Outcome State Fault Refusal :=
  shifted h (Command.attach.code :: bytes) s

/-- DETACH: `detachRequest` (R179). -/
def execDetach (h : HostId) (bytes : List Byte) (s : State) : Host.Outcome State Fault Refusal :=
  shifted h (Command.detach.code :: bytes) s

/-- IDENTIFY: `identifyRequest` (R180). -/
def execIdentify (h : HostId) (bytes : List Byte) (s : State) : Host.Outcome State Fault Refusal :=
  shifted h (Command.identify.code :: bytes) s

/-- READ_NOTICES: `readNoticesRequest` (R183). -/
def execReadNotices (h : HostId) (bytes : List Byte) (s : State) : Host.Outcome State Fault Refusal :=
  shifted h (Command.readNotices.code :: bytes) s

/-- SET_NOTICE_MASK: `setNoticeMaskRequest` (R184). -/
def execSetNoticeMask (h : HostId) (bytes : List Byte) (s : State) : Host.Outcome State Fault Refusal :=
  shifted h (Command.setNoticeMask.code :: bytes) s

/-- READ_COUNTERS: `readCountersRequest` (R185). -/
def execReadCounters (h : HostId) (bytes : List Byte) (s : State) : Host.Outcome State Fault Refusal :=
  shifted h (Command.readCounters.code :: bytes) s

/-- CLEAR_COUNTERS: `clearCountersRequest` (R185). -/
def execClearCounters (h : HostId) (bytes : List Byte) (s : State) : Host.Outcome State Fault Refusal :=
  shifted h (Command.clearCounters.code :: bytes) s

/-- READ_TICK: `readTickRequest` (R52). -/
def execReadTick (h : HostId) (bytes : List Byte) (s : State) : Host.Outcome State Fault Refusal :=
  shifted h (Command.readTick.code :: bytes) s

/-- STAGE: `stageRequest` (R23). -/
def execStage (h : HostId) (bytes : List Byte) (s : State) : Host.Outcome State Fault Refusal :=
  shifted h (Command.stage.code :: bytes) s

/-- BIND: `bindRequest` (R28). -/
def execBind (h : HostId) (bytes : List Byte) (s : State) : Host.Outcome State Fault Refusal :=
  shifted h (Command.bind.code :: bytes) s

/-- YIELD: `yieldRequest` (R30). -/
def execYield (h : HostId) (bytes : List Byte) (s : State) : Host.Outcome State Fault Refusal :=
  shifted h (Command.yield.code :: bytes) s

/-- SET_ACTION: `setActionRequest` (R32). -/
def execSetAction (h : HostId) (bytes : List Byte) (s : State) : Host.Outcome State Fault Refusal :=
  shifted h (Command.setAction.code :: bytes) s

/-- JOIN: `joinRequest` (R33). -/
def execJoin (h : HostId) (bytes : List Byte) (s : State) : Host.Outcome State Fault Refusal :=
  shifted h (Command.join.code :: bytes) s

/-- LEAVE: `leaveRequest` (R34). -/
def execLeave (h : HostId) (bytes : List Byte) (s : State) : Host.Outcome State Fault Refusal :=
  shifted h (Command.leave.code :: bytes) s

/-- OFFER: `offerRequest` (R36). -/
def execOffer (h : HostId) (bytes : List Byte) (s : State) : Host.Outcome State Fault Refusal :=
  shifted h (Command.offer.code :: bytes) s

/-- ACCEPT: `acceptRequest` (R39). -/
def execAccept (h : HostId) (bytes : List Byte) (s : State) : Host.Outcome State Fault Refusal :=
  shifted h (Command.accept.code :: bytes) s

/-- REFUSE: `refuseRequest` (R40). -/
def execRefuse (h : HostId) (bytes : List Byte) (s : State) : Host.Outcome State Fault Refusal :=
  shifted h (Command.refuse.code :: bytes) s

/-- RETRACT: `retractRequest` (R41). -/
def execRetract (h : HostId) (bytes : List Byte) (s : State) : Host.Outcome State Fault Refusal :=
  shifted h (Command.retract.code :: bytes) s

/-- RENEW: `renewRequest` (R61). -/
def execRenew (h : HostId) (bytes : List Byte) (s : State) : Host.Outcome State Fault Refusal :=
  shifted h (Command.renew.code :: bytes) s

/-- LOOKUP: `lookupRequest` (R19). -/
def execLookup (h : HostId) (bytes : List Byte) (s : State) : Host.Outcome State Fault Refusal :=
  shifted h (Command.lookup.code :: bytes) s

/-- LIST_HELD: `listHeldRequest` (R21). -/
def execListHeld (h : HostId) (bytes : List Byte) (s : State) : Host.Outcome State Fault Refusal :=
  shifted h (Command.listHeld.code :: bytes) s

/-- POOL_STATUS: `poolStatusRequest` (R80). -/
def execPoolStatus (h : HostId) (bytes : List Byte) (s : State) : Host.Outcome State Fault Refusal :=
  shifted h (Command.poolStatus.code :: bytes) s

/-- LINE_STATUS: `lineStatusRequest` (R103). -/
def execLineStatus (h : HostId) (bytes : List Byte) (s : State) : Host.Outcome State Fault Refusal :=
  shifted h (Command.lineStatus.code :: bytes) s

/-- READ_FRAME: `readFrameRequest` (R111). -/
def execReadFrame (h : HostId) (bytes : List Byte) (s : State) : Host.Outcome State Fault Refusal :=
  shifted h (Command.readFrame.code :: bytes) s

/-- ACK_FRAME: `ackFrameRequest` (R112). -/
def execAckFrame (h : HostId) (bytes : List Byte) (s : State) : Host.Outcome State Fault Refusal :=
  shifted h (Command.ackFrame.code :: bytes) s

/-- QUEUE_STATUS: `queueStatusRequest` (R114). -/
def execQueueStatus (h : HostId) (bytes : List Byte) (s : State) : Host.Outcome State Fault Refusal :=
  shifted h (Command.queueStatus.code :: bytes) s

/-- DOZE: `dozeRequest` (R124). -/
def execDoze (h : HostId) (bytes : List Byte) (s : State) : Host.Outcome State Fault Refusal :=
  shifted h (Command.doze.code :: bytes) s

/-- SLEEP: `sleepRequest` (R125). -/
def execSleep (h : HostId) (bytes : List Byte) (s : State) : Host.Outcome State Fault Refusal :=
  shifted h (Command.sleep.code :: bytes) s

/-- RESUME: `resumeRequest` (R133). -/
def execResume (h : HostId) (bytes : List Byte) (s : State) : Host.Outcome State Fault Refusal :=
  shifted h (Command.resume.code :: bytes) s

/-- READ_WAKE: `readWakeRequest` (R138). -/
def execReadWake (h : HostId) (bytes : List Byte) (s : State) : Host.Outcome State Fault Refusal :=
  shifted h (Command.readWake.code :: bytes) s

/-- SET_HOST_PARAMS: `setHostParamsRequest` (R139). -/
def execSetHostParams (h : HostId) (bytes : List Byte) (s : State) : Host.Outcome State Fault Refusal :=
  shifted h (Command.setHostParams.code :: bytes) s

/-- SUBMIT: `submitRequest` (R143). -/
def execSubmit (h : HostId) (bytes : List Byte) (s : State) : Host.Outcome State Fault Refusal :=
  shifted h (Command.submit.code :: bytes) s

/-- READ_COMPLETIONS: `readCompletionsRequest` (R153). -/
def execReadCompletions (h : HostId) (bytes : List Byte) (s : State) : Host.Outcome State Fault Refusal :=
  shifted h (Command.readCompletions.code :: bytes) s

/-- READ_CONFIG: `readConfigRequest` (R159). -/
def execReadConfig (h : HostId) (bytes : List Byte) (s : State) : Host.Outcome State Fault Refusal :=
  shifted h (Command.readConfig.code :: bytes) s

/-- PROPOSE: `proposeRequest` (R161). -/
def execPropose (h : HostId) (bytes : List Byte) (s : State) : Host.Outcome State Fault Refusal :=
  shifted h (Command.propose.code :: bytes) s

/-- ENDORSE: `endorseRequest` (R163). -/
def execEndorse (h : HostId) (bytes : List Byte) (s : State) : Host.Outcome State Fault Refusal :=
  shifted h (Command.endorse.code :: bytes) s

/-- DECLINE: `declineRequest` (R164). -/
def execDecline (h : HostId) (bytes : List Byte) (s : State) : Host.Outcome State Fault Refusal :=
  shifted h (Command.decline.code :: bytes) s

/-- WITHDRAW: `withdrawRequest` (R165). -/
def execWithdraw (h : HostId) (bytes : List Byte) (s : State) : Host.Outcome State Fault Refusal :=
  shifted h (Command.withdraw.code :: bytes) s

/-- UNKNOWN_COMMAND: a code that names no command is refused by the port and changes nothing (R173). -/
def execUnknownCommand (h : HostId) (code : Byte) (bytes : List Byte) (s : State) : Host.Outcome State Fault Refusal :=
  shifted h (code :: bytes) s

end Sys2Proof.Machine
end

