-- ==== Sys2Proof/Machine/Dispatch.lean ====
section
/-! DEFINITION. The dispatch: one arm for each command, one direct call of its meaning. -/

namespace Sys2Proof.Machine

def exec (i : Instr) (s : State) : Host.Outcome State Fault Refusal :=
  match i with
  | .attach h bytes => Sys2Proof.Machine.execAttach h bytes s
  | .detach h bytes => Sys2Proof.Machine.execDetach h bytes s
  | .identify h bytes => Sys2Proof.Machine.execIdentify h bytes s
  | .readNotices h bytes => Sys2Proof.Machine.execReadNotices h bytes s
  | .setNoticeMask h bytes => Sys2Proof.Machine.execSetNoticeMask h bytes s
  | .readCounters h bytes => Sys2Proof.Machine.execReadCounters h bytes s
  | .clearCounters h bytes => Sys2Proof.Machine.execClearCounters h bytes s
  | .readTick h bytes => Sys2Proof.Machine.execReadTick h bytes s
  | .stage h bytes => Sys2Proof.Machine.execStage h bytes s
  | .bind h bytes => Sys2Proof.Machine.execBind h bytes s
  | .yield h bytes => Sys2Proof.Machine.execYield h bytes s
  | .setAction h bytes => Sys2Proof.Machine.execSetAction h bytes s
  | .join h bytes => Sys2Proof.Machine.execJoin h bytes s
  | .leave h bytes => Sys2Proof.Machine.execLeave h bytes s
  | .offer h bytes => Sys2Proof.Machine.execOffer h bytes s
  | .accept h bytes => Sys2Proof.Machine.execAccept h bytes s
  | .refuse h bytes => Sys2Proof.Machine.execRefuse h bytes s
  | .retract h bytes => Sys2Proof.Machine.execRetract h bytes s
  | .renew h bytes => Sys2Proof.Machine.execRenew h bytes s
  | .lookup h bytes => Sys2Proof.Machine.execLookup h bytes s
  | .listHeld h bytes => Sys2Proof.Machine.execListHeld h bytes s
  | .poolStatus h bytes => Sys2Proof.Machine.execPoolStatus h bytes s
  | .lineStatus h bytes => Sys2Proof.Machine.execLineStatus h bytes s
  | .readFrame h bytes => Sys2Proof.Machine.execReadFrame h bytes s
  | .ackFrame h bytes => Sys2Proof.Machine.execAckFrame h bytes s
  | .queueStatus h bytes => Sys2Proof.Machine.execQueueStatus h bytes s
  | .doze h bytes => Sys2Proof.Machine.execDoze h bytes s
  | .sleep h bytes => Sys2Proof.Machine.execSleep h bytes s
  | .resume h bytes => Sys2Proof.Machine.execResume h bytes s
  | .readWake h bytes => Sys2Proof.Machine.execReadWake h bytes s
  | .setHostParams h bytes => Sys2Proof.Machine.execSetHostParams h bytes s
  | .submit h bytes => Sys2Proof.Machine.execSubmit h bytes s
  | .readCompletions h bytes => Sys2Proof.Machine.execReadCompletions h bytes s
  | .readConfig h bytes => Sys2Proof.Machine.execReadConfig h bytes s
  | .propose h bytes => Sys2Proof.Machine.execPropose h bytes s
  | .endorse h bytes => Sys2Proof.Machine.execEndorse h bytes s
  | .decline h bytes => Sys2Proof.Machine.execDecline h bytes s
  | .withdraw h bytes => Sys2Proof.Machine.execWithdraw h bytes s
  | .unknownCommand h code bytes => Sys2Proof.Machine.execUnknownCommand h code bytes s
  | .selectAsserted h => Sys2Proof.Machine.execSelectAsserted h s
  | .selectReleased h => Sys2Proof.Machine.execSelectReleased h s
  | .portReset h => Sys2Proof.Machine.execPortReset h s
  | .portResetRelease h => Sys2Proof.Machine.execPortResetRelease h s
  | .deviceReset cause => Sys2Proof.Machine.execDeviceReset cause s
  | .resetEnd => Sys2Proof.Machine.execResetEnd s
  | .tick => Sys2Proof.Machine.execTick s
  | .probeWindowExpiry j => Sys2Proof.Machine.execProbeWindowExpiry j s
  | .stageHoldExpiry j => Sys2Proof.Machine.execStageHoldExpiry j s
  | .offerExpiry j => Sys2Proof.Machine.execOfferExpiry j s
  | .leaseRunOut j => Sys2Proof.Machine.execLeaseRunOut j s
  | .graceExpiry j => Sys2Proof.Machine.execGraceExpiry j s
  | .dozeDelayExpiry h => Sys2Proof.Machine.execDozeDelayExpiry h s
  | .alarmExpiry h => Sys2Proof.Machine.execAlarmExpiry h s
  | .attemptExpiry h => Sys2Proof.Machine.execAttemptExpiry h s
  | .restExpiry h => Sys2Proof.Machine.execRestExpiry h s
  | .accordWindowExpiry => Sys2Proof.Machine.execAccordWindowExpiry s
  | .lineUpEvent => Sys2Proof.Machine.execLineUpEvent s
  | .lineDownEvent => Sys2Proof.Machine.execLineDownEvent s
  | .frameStart => Sys2Proof.Machine.execFrameStart s
  | .receptionCellNeed b => Sys2Proof.Machine.execReceptionCellNeed b s
  | .wireFrameEnd => Sys2Proof.Machine.execWireFrameEnd s
  | .grant => Sys2Proof.Machine.execGrant s
  | .sendCompletion => Sys2Proof.Machine.execSendCompletion s
  | .wholeByteReceived b => Sys2Proof.Machine.execWholeByteReceived b s
  | .receiveErrorMarked => Sys2Proof.Machine.execReceiveErrorMarked s

end Sys2Proof.Machine
end

