-- ==== Sys2Proof/Safety.lean ====
section
/-! DEFINITION. What the statements about the part say: the conditions under which a command finds its port and its
host ready, the state after a response, and the laws that the manual says the part keeps. -/

namespace Sys2Proof

open Machine

/-! ### Request rows -/

/-- The row of the table that stands for a request of host `h` with this command. -/
def Instr.ofRequest (h : HostId) (c : Command) (bytes : List Byte) : Instr :=
  match c with
  | .attach => .attach h bytes
  | .detach => .detach h bytes
  | .identify => .identify h bytes
  | .readNotices => .readNotices h bytes
  | .setNoticeMask => .setNoticeMask h bytes
  | .readCounters => .readCounters h bytes
  | .clearCounters => .clearCounters h bytes
  | .readTick => .readTick h bytes
  | .stage => .stage h bytes
  | .bind => .bind h bytes
  | .yield => .yield h bytes
  | .setAction => .setAction h bytes
  | .join => .join h bytes
  | .leave => .leave h bytes
  | .offer => .offer h bytes
  | .accept => .accept h bytes
  | .refuse => .refuse h bytes
  | .retract => .retract h bytes
  | .renew => .renew h bytes
  | .lookup => .lookup h bytes
  | .listHeld => .listHeld h bytes
  | .poolStatus => .poolStatus h bytes
  | .lineStatus => .lineStatus h bytes
  | .readFrame => .readFrame h bytes
  | .ackFrame => .ackFrame h bytes
  | .queueStatus => .queueStatus h bytes
  | .doze => .doze h bytes
  | .sleep => .sleep h bytes
  | .resume => .resume h bytes
  | .readWake => .readWake h bytes
  | .setHostParams => .setHostParams h bytes
  | .submit => .submit h bytes
  | .readCompletions => .readCompletions h bytes
  | .readConfig => .readConfig h bytes
  | .propose => .propose h bytes
  | .endorse => .endorse h bytes
  | .decline => .decline h bytes
  | .withdraw => .withdraw h bytes

/-- `i` is a row in which host `h` shifts in the bytes `row`: a command's row, or UNKNOWN_COMMAND. -/
def Instr.Spells (i : Instr) (h : HostId) (row : List Byte) : Prop :=
  (∃ (c : Command) (bytes : List Byte), i = Instr.ofRequest h c bytes ∧ row = c.code :: bytes) ∨
    ∃ (code : Byte) (bytes : List Byte), i = .unknownCommand h code bytes ∧ row = code :: bytes

end Sys2Proof

namespace Sys2Proof.Machine

/-! ### A port and a host ready for a request -/

/-- The part runs, the port of host `h` is selected, and no byte of a request has arrived (R171, R177, R181). -/
structure State.Listening (s : State) (h : HostId) : Prop where
  runs : s.resetting = none
  released : (s.port h).held = false
  phase : (s.port h).phase = .request
  empty : (s.port h).request = []

/-- Host `h` is awake: AWAKE or DOZING (R120). -/
def State.Awake (s : State) (h : HostId) : Prop := (s.host h).reach = .awake ∨ (s.host h).reach = .dozing

/-- Host `h` may send every command: its port listens and it is awake (R122). -/
structure State.Ready (s : State) (h : HostId) : Prop where
  listening : s.Listening h
  awake : s.Awake h

/-- Host `h` is attached and its port listens. -/
structure State.Heard (s : State) (h : HostId) : Prop where
  listening : s.Listening h
  attached : (s.host h).reach ≠ .detached

/-- A response as section 11.1 lays it out: status, tag, payload length, payload, and the byte that makes the sum of
all bytes 0 modulo 256. -/
def responseFrame (status : Byte) (tag : Word16) (payload : List Byte) : List Byte :=
  let body := status :: (word16Bytes tag ++ nat16Bytes payload.length ++ payload)
  body ++ [checkByte body]

/-- `s` with the bytes `req` of host `h` taken as a request and answered: the port in phase RESPONSE, the request in its
request buffer, the response in its response buffer with no byte of it shifted out yet (R171, R175). -/
def State.answered (s : State) (h : HostId) (req : List Byte) (tag : Word16) (status : Byte) (payload : List Byte) :
    State :=
  { s with
    ports := s.ports.set h
      { phase := .response
        request := req
        response := responseFrame status tag payload
        shifted := 0
        held := false
        lastDetach := (s.ports.get h).lastDetach } }

/-- `s` with the request of host `h` that has this command code, tag and parameters taken and answered (R186). -/
def State.responded (s : State) (h : HostId) (code : Byte) (tag : Word16) (params : List Byte) (status : Byte)
    (payload : List Byte) : State :=
  s.answered h (code :: requestBytes code tag params) tag status payload

/-- The commands that an asleep host may send, apart from ATTACH (R122). -/
def Command.whileAsleep : Command → Bool
  | .resume | .detach | .identify | .readNotices | .readWake | .readTick => true
  | _ => false

/-- Entry `i` is the claim `c` of host `h`, under generation `g` (R10). -/
structure State.Holds (s : State) (h : HostId) (i : Index) (g : Word16) (c : Claim) : Prop where
  generation : (s.entry i).generation = g
  use : (s.entry i).use = .unicast c
  owner : c.owner = h

/-- Entry `i` is the lowest-indexed FREE one (R8). -/
structure State.FirstFree (s : State) (i : Index) : Prop where
  free : (s.entry i).use = .free
  lowest : ∀ j : Index, j < i → (s.entry j).use ≠ .free

/-- The parameters that name entry `i` under generation `g` (R10). -/
def refParams (i : Index) (g : Word16) : List Byte := byte i.val :: word16Bytes g

/-! ### What a detach leaves (R46, R47, R119, R141, R155, R167, R179) -/

/-- An entry as the detach of host `h` leaves it: the host's own entries FREE, the host out of every group, and no
offer to it (R46, R47). -/
def Entry.afterDetach (h : HostId) (e : Entry) : Entry :=
  match e.use with
  | .free => e
  | .unicast c =>
    if c.owner = h then { e with use := .free }
    else if c.offer.any (fun o => o.target = h) then { e with use := .unicast { c with offer := none } }
    else e
  | .group g =>
    if g.members.get h then
      if (g.members.set h false).members.isEmpty then { e with use := .free }
      else { e with use := .group { g with members := g.members.set h false } }
    else e

/-- Every voter of a proposal but host `h` has endorsed it; so too where `h` is the only voter (R167). -/
def Proposal.agreedWithout (q : Proposal) (h : HostId) : Bool :=
  HostId.all.all (fun k => k = h || q.votes.get k ≠ some .outstanding)

/-- The pending proposal that the detach of host `h`, a voter, applies (R167). -/
def State.detachApplies (s : State) (h : HostId) : Option Proposal :=
  s.accord.proposal.filter (fun q => q.proposer ≠ h && (q.votes.get h).isSome && q.agreedWithout h)

/-- The Accord Unit after the detach of host `h` (R167, R168). -/
def State.detachedAccord (s : State) (h : HostId) : Accord :=
  match s.accord.proposal with
  | none => s.accord
  | some q =>
    if q.proposer = h then { s.accord with proposal := none }
    else if q.votes.get h = none then s.accord
    else if q.agreedWithout h then
      { config := q.record
        generation := s.accord.generation + 1
        lastSerial := s.accord.lastSerial
        proposal := none }
    else { s.accord with proposal := some { q with votes := q.votes.set h none } }

/-- The notices that the offers of host `h` raise for host `k` at the detach of `h`, in ascending order of entry index
(R46). -/
def State.withdrawnOffers (s : State) (h k : HostId) : List Report :=
  (List.finRange 64).filterMap (fun i =>
    match (s.entry i).use with
    | .unicast c =>
      if c.owner = h ∧ c.offer.any (fun o => o.target = k) then
        some (.offerResolved ⟨i, (s.entry i).generation⟩ .withdrawn h (s.entry i).generation)
      else none
    | _ => none)

/-- The notices that the offers of host `k` to host `h` raise for `k` at the detach of `h`, in ascending order of entry
index (R47). -/
def State.refusedOffers (s : State) (h k : HostId) : List Report :=
  (List.finRange 64).filterMap (fun i =>
    match (s.entry i).use with
    | .unicast c =>
      if c.owner = k ∧ c.offer.any (fun o => o.target = h) then
        some (.offerResolved ⟨i, (s.entry i).generation⟩ .refused h (s.entry i).generation)
      else none
    | _ => none)

/-- The notices about a pending proposal that the detach of host `h` raises for host `k`: WITHDRAWN to each voter where
`h` proposed it; where the detach applies it, APPLIED to its proposer and each remaining voter, and then CONFIG_APPLIED
(R167, R168, R169). -/
def State.accordNotices (s : State) (h k : HostId) : List Report :=
  match s.accord.proposal with
  | none => []
  | some q =>
    if q.proposer = h then
      if (q.votes.get k).isSome then [.accordOutcome .withdrawn q.serial none] else []
    else if (q.votes.get h).isSome && q.agreedWithout h then
      (if k = q.proposer ∨ (q.votes.get k).isSome then [.accordOutcome .applied q.serial none] else []) ++
        [.configApplied (s.accord.generation + 1)]
    else []

/-- Every notice that the detach of host `h` raises for another host `k`, in the order of R179. -/
def State.detachNotices (s : State) (h k : HostId) : List Report :=
  s.withdrawnOffers h k ++ s.refusedOffers h k ++ s.accordNotices h k

/-- The record of a reception in STORING that the detach of host `h` ends, by applying a proposal that disables the line
(R91, R167). -/
def State.detachLoses (s : State) (h : HostId) : List Handle :=
  match s.detachApplies h, s.line.reception.map (·.mode) with
  | some q, some (ReceptionMode.storing r) => if s.accord.config.lineEnable && !q.record.lineEnable then [r] else []
  | _, _ => []

/-- The handles that the positions of host `h` name: its receive queue, its hold list and its transmit queue. -/
def State.positionHandles (s : State) (h : HostId) : List Handle :=
  (s.host h).rxQueue.map (·.handle) ++ (s.host h).holdList.map (·.handle) ++ (s.tx h).queue.map (·.handle)

/-- `t` is what the detach of host `h` with a cause leaves of `s`. -/
structure State.DetachedFrom (t s : State) (h : HostId) (cause : DetachCause) : Prop where
  entries : ∀ i : Index, t.entry i = (s.entry i).afterDetach h
  reach : (t.host h).reach = .detached
  lists : (t.host h).rxQueue = [] ∧ (t.host h).holdList = [] ∧ (t.host h).charge = 0
  timers : (t.host h).alarm = none ∧ (t.host h).attemptTimer = none ∧ (t.host h).restTimer = none ∧
    (t.host h).dozeTimer = none ∧ (t.host h).delayReached = false
  reachFields : (t.host h).depth = none ∧ (t.host h).attempt = none ∧ (t.host h).wake = none
  notices : (t.host h).notices = [] ∧ (t.host h).lost = 0 ∧ (t.host h).mask = none
  transmit : (t.tx h).queue = [] ∧ (t.tx h).ring = [] ∧ (t.tx h).nextSequence = none
  path : t.arbiter.path = s.arbiter.path.map (fun f => if f.sender = h then { f with discard := true } else f)
  cause : (t.port h).lastDetach = some cause
  lastGranted : t.arbiter.lastGranted = s.arbiter.lastGranted
  others : ∀ k : HostId, k ≠ h →
    { t.host k with notices := [], lost := 0 } = { s.host k with notices := [], lost := 0 } ∧ t.tx k = s.tx k ∧
      t.port k = s.port k
  accord : t.accord = s.detachedAccord h
  told : ∀ k : HostId, k ≠ h → t.host k = ((s.detachNotices h k).foldl (fun u r => u.notify k r) s).host k
  pool : t.pool = (s.dropRefs (s.positionHandles h ++ s.detachLoses h)).pool
  line : s.detachLoses h = [] → t.line = s.line
  reception : ∀ (r : Handle) (rec : FrameRecord) (x : Reception), s.detachLoses h = [r] → s.record r = some rec →
    s.line.reception = some x → r ∉ s.positionHandles h →
      t.line =
        { s.line with
          reception := some { x with mode := .ignoring }
          counters :=
            if rec.exhausted = some true then { s.line.counters with noCells := bump s.line.counters.noCells }
            else { s.line.counters with lineDisabled := bump s.line.counters.lineDisabled } }
  clock : t.tick = s.tick ∧ t.line.up = s.line.up ∧ t.line.lastChange = s.line.lastChange
  device : t.resetting = s.resetting ∧ t.resetCause = s.resetCause ∧ t.pending = s.pending

/-! ### The laws of the station table (R1, R2, R3, R54) -/

/-- The staged states: PROBING, PROBED and CONFLICTED. -/
def ClaimState.staged : ClaimState → Bool
  | .probing | .probed | .conflicted => true
  | .live | .lapsing => false

/-- The fields of a claim are present exactly where R1 says, and lie in their ranges. -/
structure Claim.Lawful (c : Claim) : Prop where
  address_unicast : isGroupAddress c.address = false
  address_nonzero : c.address ≠ 0
  reload_present : c.reload.isSome = (c.mode != .pinned)
  reload_range : ∀ n ∈ c.reload, 1 ≤ n ∧ n ≤ 65535
  stageTimer_present : c.stageTimer.isSome = c.state.staged
  stageTimer_range : ∀ n ∈ c.stageTimer, n ≤ 255
  leaseRemaining_present : c.leaseRemaining.isSome = (c.state == .live && c.mode != .pinned)
  leaseRemaining_range : ∀ n ∈ c.leaseRemaining, n ≤ 65535
  activitySeen_present : c.activitySeen.isSome = (c.state == .live && c.mode == .activity)
  graceRemaining_present : c.graceRemaining.isSome = (c.state == .lapsing)
  graceRemaining_range : ∀ n ∈ c.graceRemaining, n ≤ 255
  lapsing_leased : c.state = .lapsing → c.mode ≠ .pinned
  offer_bound : c.offer.isSome → c.bound
  offer_range : ∀ o ∈ c.offer, o.target ≠ c.owner ∧ o.remaining ≤ 255
  collisions_present : c.collisions.isSome = c.bound
  collisions_range : ∀ n ∈ c.collisions, n ≤ Config.smallCountMax
  hits_range : c.hits ≤ Config.counterMax

/-- A group entry holds a group address other than the broadcast address, and has a member (R2). -/
structure Group.Lawful (g : Group) : Prop where
  address_group : isGroupAddress g.address
  address_not_broadcast : g.address ≠ broadcastAddress
  member : g.members.members ≠ []
  hits_range : g.hits ≤ Config.counterMax

/-- The fields of an entry are those its state gives it (R1, R2). -/
def EntryUse.Lawful : EntryUse → Prop
  | .free => True
  | .unicast c => c.Lawful
  | .group g => g.Lawful

/-- The laws of the station table: each entry's fields (R1, R2), and no address held twice (R3). -/
structure State.TableLaw (s : State) : Prop where
  entries : ∀ i : Index, (s.entry i).use.Lawful
  unique : ∀ i j : Index, (s.entry i).address? ≠ none → (s.entry i).address? = (s.entry j).address? → i = j

/-! ### The laws of the accord (R158, R160) -/

/-- Every field of a configuration record lies in the range of R158. -/
structure ConfigRecord.Lawful (c : ConfigRecord) : Prop where
  probeWindow : c.probeWindow ≤ 255
  stageHold : 1 ≤ c.stageHold ∧ c.stageHold ≤ 255
  lapseGrace : c.lapseGrace ≤ 255
  accordWindow : 1 ≤ c.accordWindow ∧ c.accordWindow ≤ 255
  entryLimit : ∀ h : HostId, 1 ≤ c.entryLimit.get h ∧ c.entryLimit.get h ≤ 64
  cellQuota : ∀ h : HostId, 12 ≤ c.cellQuota.get h ∧ c.cellQuota.get h ≤ 384

/-- The active record, and a pending proposal, hold values in their ranges; a pending proposal carries the last serial
and the generation in force, its proposer has no vote, and some voter's vote is outstanding (R160 to R168). -/
structure State.AccordLaw (s : State) : Prop where
  active : s.accord.config.Lawful
  proposed : ∀ q ∈ s.accord.proposal, q.record.Lawful
  window : ∀ q ∈ s.accord.proposal, q.window ≤ 255
  serial : ∀ q ∈ s.accord.proposal, q.serial = s.accord.lastSerial
  base : ∀ q ∈ s.accord.proposal, q.base = s.accord.generation
  proposer : ∀ q ∈ s.accord.proposal, q.votes.get q.proposer = none
  outstanding : ∀ q ∈ s.accord.proposal, ∃ h : HostId, q.votes.get h = some .outstanding

/-! ### The laws of the Frame Pool (R65, R68, R69, R77) -/

/-- The canonical form of the store: addresses strictly rising within the 49,152 bytes, and no byte listed as 0. -/
def storeWf (m : List Host.Cell) : Prop :=
  m.Pairwise (fun x y => x.1 < y.1) ∧ ∀ x ∈ m, x.1 < Config.cellCount * Config.cellBytes ∧ x.2 ≠ 0

/-- The cells of a record's chain; a free record has none. -/
def chainOf : Option FrameRecord → List CellId
  | none => []
  | some rec => rec.chain

/-- Each cell stands once, on the free cell list or in the chain of a record (R65), and a record is free exactly when
it stands on the free record list, once (R68). -/
structure State.PoolLaw (s : State) : Prop where
  cells : ∀ c : CellId,
    s.pool.freeCells.count c + ((List.finRange Config.recordCount).map (fun r => (chainOf (s.record r)).count c)).sum = 1
  records : ∀ r : Handle, s.pool.freeRecords.count r = if s.record r = none then 1 else 0

/-- The positions of host `h`'s receive queue, hold list and transmit queue that name record `r`. -/
def State.positions (s : State) (r : Handle) (h : HostId) : Nat :=
  (s.host h).rxQueue.countP (fun p => p.handle = r) + (s.host h).holdList.countP (fun p => p.handle = r) +
    (s.tx h).queue.countP (fun p => p.handle = r)

/-- Whether the Line Interface is receiving into record `r`. -/
def State.receivesInto (s : State) (r : Handle) : Bool := s.line.reception.any (fun x => x.mode = .storing r)

/-- Whether the transmit path is handling record `r`. -/
def State.onPath (s : State) (r : Handle) : Bool := s.arbiter.path.any (fun f => f.handle = r)

/-- How many positions and activities name record `r` (R69). -/
def State.named (s : State) (r : Handle) : Nat :=
  (HostId.all.map (s.positions r)).sum + (if s.receivesInto r then 1 else 0) + (if s.onPath r then 1 else 0)

/-- The reference count of an allocated record is the number of positions and activities that name it, at least 1, and
nothing names a free record (R69). -/
def State.ReferenceLaw (s : State) : Prop :=
  ∀ r : Handle,
    match s.record r with
    | none => s.named r = 0
    | some rec => rec.refs = s.named r ∧ 1 ≤ rec.refs

/-- The cells of the frames that stand in host `h`'s receive queue and hold list. -/
def State.waitingCells (s : State) (h : HostId) : Nat :=
  ((s.host h).rxQueue.map (fun p => s.cellCount p.handle)).sum +
    ((s.host h).holdList.map (fun p => s.cellCount p.handle)).sum

/-- Each host's cell charge is the sum of the cell counts of the frames in its receive queue and hold list (R77), and
no position names a frame that is still being received. -/
structure State.ChargeLaw (s : State) : Prop where
  charge : ∀ h : HostId, (s.host h).charge = s.waitingCells h
  received : ∀ (r : Handle) (h : HostId), s.receivesInto r → s.positions r h = 0

/-! ### The laws of the Host Contexts and the Transmit Arbiter -/

/-- Every list holds at most its capacity (R110, R142, R182), and the ring of the host whose frame is on the path has
a free place for its completion (R145). -/
structure State.CapacityLaw (s : State) : Prop where
  rxQueue : ∀ h : HostId, (s.host h).rxQueue.length ≤ Config.receiveQueueSize
  holdList : ∀ h : HostId, (s.host h).holdList.length ≤ Config.holdListSize
  notices : ∀ h : HostId, (s.host h).notices.length ≤ Config.noticeListSize
  lost : ∀ h : HostId, (s.host h).lost ≤ Config.smallCountMax
  queue : ∀ h : HostId, (s.tx h).queue.length ≤ Config.transmitQueueSize
  ring : ∀ h : HostId, (s.tx h).ring.length ≤ Config.completionRingSize
  place : ∀ f ∈ s.arbiter.path, f.discard = false → (s.tx f.sender).ring.length < Config.completionRingSize

/-- A host awake with frames held has a full receive queue (R110). -/
def State.HeldLaw (s : State) : Prop :=
  ∀ h : HostId, s.Awake h → (s.host h).holdList ≠ [] → (s.host h).rxQueue.length = Config.receiveQueueSize

/-- The fields of a host are present exactly in the reachability states that R120 gives, and what is kept for an
attached host alone is present exactly while it is attached (R137, R142, R179). -/
structure State.ReachLaw (s : State) : Prop where
  depth : ∀ h : HostId, (s.host h).depth.isSome = s.asleep h
  alarm : ∀ h : HostId, (s.host h).alarm.isSome → (s.host h).reach = .asleep
  attempt : ∀ h : HostId, (s.host h).attempt.isSome = ((s.host h).reach == .waking || (s.host h).reach == .wakeRest)
  attemptTimer : ∀ h : HostId, (s.host h).attemptTimer.isSome = ((s.host h).reach == .waking)
  restTimer : ∀ h : HostId, (s.host h).restTimer.isSome = ((s.host h).reach == .wakeRest)
  wake : ∀ h : HostId, (s.host h).wake.isSome = s.attached h
  mask : ∀ h : HostId, (s.host h).mask.isSome = s.attached h
  nextSequence : ∀ h : HostId, (s.tx h).nextSequence.isSome = s.attached h

/-- A DETACHED host owns no entry, is a member of no group, is the target of no offer, and is neither proposer nor
voter; its lists and its charge are empty; a frame of it on the path is marked for discard (R18, R155, R179). -/
structure State.AttachmentLaw (s : State) : Prop where
  owner : ∀ h : HostId, s.attached h = false → ∀ i : Index, s.ownedBy h i = false
  member : ∀ h : HostId, s.attached h = false → ∀ i : Index, ∀ g ∈ (s.entry i).group?, g.members.get h = false
  target : ∀ h : HostId, s.attached h = false → ∀ i : Index, ∀ c ∈ (s.entry i).claim?, ∀ o ∈ c.offer, o.target ≠ h
  proposal : ∀ h : HostId, s.attached h = false → ∀ q ∈ s.accord.proposal, q.proposer ≠ h ∧ q.votes.get h = none
  lists : ∀ h : HostId, s.attached h = false →
    (s.host h).rxQueue = [] ∧ (s.host h).holdList = [] ∧ (s.host h).charge = 0 ∧ (s.host h).notices = []
  transmit : ∀ h : HostId, s.attached h = false → (s.tx h).queue = [] ∧ (s.tx h).ring = []
  path : ∀ f ∈ s.arbiter.path, s.attached f.sender = false → f.discard = true

/-! ### The law of the Host Port Controllers (R171, R177) -/

/-- In IDLE both buffers are empty; in REQUEST the request is not complete and the response buffer is empty; a port
whose reset input is asserted, and every port while a device reset lasts, is in IDLE (R171, R177, R181). -/
structure State.PortLaw (s : State) : Prop where
  idle : ∀ h : HostId, (s.port h).phase = .idle → (s.port h).request = [] ∧ (s.port h).response = []
  request : ∀ h : HostId, (s.port h).phase = .request →
    requestEnd (s.port h).request = none ∧ (s.port h).response = []
  held : ∀ h : HostId, (s.port h).held → (s.port h).phase = .idle
  resetting : s.resetting ≠ none → ∀ h : HostId, (s.port h).phase = .idle

end Sys2Proof.Machine
end

