-- ==== Sys2Proof/Certificates/Slice0/Obligations.lean ====
section
/-! DEFINITION. The statements for the provers. Each docstring names the rule or the section of the manual that the
statement formalises, or the log entry whose choice it states. -/

open Sys2Proof Sys2Proof.Machine

/-! ### The queue of commands, and device reset -/

/-- A step runs the command at the front of the queue on the state with the queue's rest, and an empty queue leaves the
state as it is. The queue and the idle step are the model's (notes/assumptions/6). -/
def Obligations.StepRunsTheFrontCommand : Prop :=
  (∀ (s : State) (c : Instr) (rest : List Instr),
    s.pending = c :: rest → step s = exec c { s with pending := rest }) ∧
  ∀ s : State, s.pending = [] → step s = .next s

/-- What device reset leaves in every block (R22, R49, R81, R82, R102, R119, R141, R142, R158, R160, R171, R181): among
it the per-host counters of R119 and R141 at 0, and the lost count of a DETACHED host (R179). That the reset was one at
power-on is the model's choice (notes/assumptions/5). The fields whose reset values are the model's choice
(notes/assumptions/2 and 3) are not named here. -/
def Obligations.ResetStateOfEveryBlock : Prop :=
  (∀ i : Index, State.reset.entry i = { generation := 0, use := .free }) ∧
  State.reset.tick = { count := 0, period := .ms100 } ∧
  (State.reset.resetting = none ∧ State.reset.resetCause = .powerOn) ∧
  State.reset.pool.freeCells = List.finRange 384 ∧
  State.reset.pool.freeRecords = List.finRange 128 ∧
  (∀ r : Handle, State.reset.record r = none) ∧
  (State.reset.line.up = false ∧ State.reset.line.lastChange = none ∧ State.reset.line.reception = none) ∧
  State.reset.line.counters = ⟨0, 0, 0, 0, 0, 0, 0, 0, 0, 0, 0, 0⟩ ∧
  (∀ h : HostId,
    (State.reset.host h).reach = .detached ∧ (State.reset.host h).rxQueue = [] ∧
      (State.reset.host h).holdList = [] ∧ (State.reset.host h).charge = 0 ∧
      (State.reset.host h).dozeTimer = none ∧ (State.reset.host h).delayReached = false ∧
      (State.reset.host h).alarm = none ∧ (State.reset.host h).attemptTimer = none ∧
      (State.reset.host h).restTimer = none ∧ (State.reset.host h).notices = [] ∧ (State.reset.host h).lost = 0 ∧
      ((State.reset.host h).counters.delivered = 0 ∧ (State.reset.host h).counters.held = 0 ∧
        (State.reset.host h).counters.dropQueueFull = 0 ∧ (State.reset.host h).counters.dropHoldFull = 0 ∧
        (State.reset.host h).counters.dropQuota = 0 ∧ (State.reset.host h).counters.dropAsleep = 0 ∧
        (State.reset.host h).counters.dropStranded = 0 ∧ (State.reset.host h).counters.wakes = 0 ∧
        (State.reset.host h).counters.strandings = 0) ∧
      State.reset.tx h = { queue := [], ring := [], nextSequence := none } ∧
      (State.reset.port h).phase = .idle ∧ (State.reset.port h).request = [] ∧
      (State.reset.port h).response = [] ∧ (State.reset.port h).lastDetach = none ∧
      State.reset.attention h = false ∧ State.reset.wakeLine h = false) ∧
  State.reset.arbiter.path = none ∧ State.reset.arbiter.lastGranted = .h3 ∧
  State.reset.accord =
    { config :=
        { tickPeriod := .ms100, probeWindow := 20, stageHold := 50, lapseGrace := 30, accordWindow := 100,
          unknown := .discard, lineEnable := true, entryLimit := ⟨16, 16, 16, 16⟩, cellQuota := ⟨96, 96, 96, 96⟩ }
      generation := 0
      lastSerial := 0
      proposal := none }

/-- The state after reset has every law that a later statement says each step keeps. The canonical form of the store is
the model's (notes/assumptions/2), and an empty request buffer in IDLE its reading (notes/assumptions/18). -/
def Obligations.ResetMeetsEveryLaw : Prop :=
  State.reset.TableLaw ∧ State.reset.AccordLaw ∧ storeWf State.reset.pool.store ∧ State.reset.PoolLaw ∧
  State.reset.ReferenceLaw ∧ State.reset.ChargeLaw ∧ State.reset.CapacityLaw ∧ State.reset.HeldLaw ∧
  State.reset.ReachLaw ∧ State.reset.AttachmentLaw ∧ State.reset.PortLaw

/-- A device reset begins with every block in its reset state, and ends with the cause of the reset set and the line
taken from the link indication, every block in its reset state and the levels of the input pins as they are (R181, R82,
R22). These are the model's reading: that the blocks hold their reset state from the begin of the reset, that a reset
which began at power-on keeps its kind, that the last cause stays until the end, and that RESET_END with no reset in
progress changes nothing (notes/assumptions/7); and that the queue of commands is kept (notes/assumptions/6 and 7). -/
def Obligations.DeviceResetBeginsAndEnds : Prop :=
  (∀ (s : State) (cause : ResetCause),
    exec (.deviceReset cause) s = .next
      { State.reset with
        resetting := some (if s.resetting = some .powerOn then .powerOn else cause)
        resetCause := s.resetCause
        line := { State.reset.line with link := s.line.link }
        ports := s.ports.map (fun p => ⟨.idle, [], [], 0, p.held, none⟩)
        pending := s.pending }) ∧
  (∀ (s : State) (cause : ResetCause), s.resetting = some cause →
    exec .resetEnd s = .next
      { State.reset with
        resetCause := cause
        line := { State.reset.line with
          up := s.line.link
          link := s.line.link
          lastChange := if s.line.link then some 0 else none }
        ports := s.ports.map (fun p => ⟨.idle, [], [], 0, p.held, none⟩)
        pending := s.pending }) ∧
  ∀ s : State, s.resetting = none → exec .resetEnd s = .next s

/-- While a device reset lasts the part takes no event: only the end of the reset, another begin of one, and the levels
of the port reset inputs and of the link indication are seen; every sideband line is released and nothing is on the wire
(R181). That those levels are kept as they change is the model's reading (notes/assumptions/7). -/
def Obligations.DuringDeviceResetNoEventIsTaken : Prop :=
  ∀ s : State, s.resetting ≠ none →
    (∀ i : Instr, (∀ c, i ≠ .deviceReset c) → i ≠ .resetEnd → (∀ h, i ≠ .portReset h) →
      (∀ h, i ≠ .portResetRelease h) → i ≠ .lineUpEvent → i ≠ .lineDownEvent → exec i s = .next s) ∧
    (∀ h : HostId, exec (.portReset h) s = .next { s with ports := s.ports.set h { s.ports.get h with held := true } } ∧
      exec (.portResetRelease h) s = .next { s with ports := s.ports.set h { s.ports.get h with held := false } }) ∧
    exec .lineUpEvent s = .next { s with line := { s.line with link := true } } ∧
    exec .lineDownEvent s = .next { s with line := { s.line with link := false } } ∧
    (∀ h : HostId, s.attention h = false ∧ s.wakeLine h = false) ∧ s.wireBytes = []

/-! ### The transaction -/

/-- Select asserted in phase IDLE begins a transaction with the request buffer empty, and select released in any phase
ends it with the response buffer empty (R171, R176). With the port reset input asserted no select is taken (R177).
These are the model's reading: an assertion outside IDLE, where select is already asserted, changes nothing, and a
release in IDLE leaves the port so (notes/assumptions/8); every release empties the request buffer too
(notes/assumptions/18). The assertion of the port reset input of a DETACHED host aborts the transaction and changes
nothing else, the last detach cause kept, and its release lets the controller work again (R177). -/
def Obligations.SelectAndPortResetAtAPort : Prop :=
  ∀ (s : State) (h : HostId), s.resetting = none →
    ((s.ports.get h).held = false → (s.ports.get h).phase = .idle →
      exec (.selectAsserted h) s = .next
        { s with
          ports := s.ports.set h { s.ports.get h with phase := .request, request := [], response := [], shifted := 0 } }) ∧
    ((s.ports.get h).held = true ∨ (s.ports.get h).phase ≠ .idle → exec (.selectAsserted h) s = .next s) ∧
    exec (.selectReleased h) s = .next
      { s with
        ports := s.ports.set h { s.ports.get h with phase := .idle, request := [], response := [], shifted := 0 } } ∧
    ((s.host h).reach = .detached →
      exec (.portReset h) s = .next
        { s with
          ports := s.ports.set h
            { s.ports.get h with phase := .idle, request := [], response := [], shifted := 0, held := true } }) ∧
    exec (.portResetRelease h) s = .next { s with ports := s.ports.set h { s.ports.get h with held := false } }

/-- The bytes of a request row on a port: with no transaction or the port reset input asserted they are not stored; in
REQUEST, while no request is complete, they are only appended to the request buffer; in RESPONSE they are ignored, and
each shifts out one byte of the response until its last (R171, R172, R175, R177). A row that completes a request, begun in
that row or in an earlier one, leaves what the whole request in one row on an empty request buffer would leave, but that
each of its bytes after the request has shifted out one byte of the response (R172, R175). Data out carries the wait byte
before the response, after its last byte and while the port reset input is asserted, and the bytes of the response in
order, one for each byte shifted in (R175, R177). These are the model's reading: that a row is a run of bytes, whose
request may go on in a later row (notes/assumptions/1), and that data out carries the wait byte with no transaction
(notes/assumptions/19). -/
def Obligations.BytesShiftedInByPhase : Prop :=
  ∀ (s : State) (i : Instr) (h : HostId) (row : List Byte), i.Spells h row → s.resetting = none →
    ((s.ports.get h).held = true ∨ (s.ports.get h).phase = .idle → exec i s = .next s) ∧
    ((s.ports.get h).held = false → (s.ports.get h).phase = .request →
      requestEnd ((s.ports.get h).request ++ row) = none →
      exec i s = .next
        { s with ports := s.ports.set h { s.ports.get h with request := (s.ports.get h).request ++ row } }) ∧
    ((s.ports.get h).held = false → (s.ports.get h).phase = .response →
      exec i s = .next
        { s with
          ports := s.ports.set h
            { s.ports.get h with
              shifted := min ((s.ports.get h).shifted + row.length) (s.ports.get h).response.length } }) ∧
    (∀ (n : Nat) (j : Instr), (s.ports.get h).held = false → (s.ports.get h).phase = .request →
      requestEnd ((s.ports.get h).request ++ row) = some n → j.Spells h (((s.ports.get h).request ++ row).take n) →
      ∃ u : State,
        exec j { s with ports := s.ports.set h { s.ports.get h with request := [] } } = .next u ∧
        (u.port h).phase = .response ∧ (u.port h).shifted = 0 ∧ (u.port h).response ≠ [] ∧
        exec i s = .next
          { u with
            ports := u.ports.set h
              { u.port h with
                shifted := min ((s.ports.get h).request.length + row.length - n) (u.port h).response.length } }) ∧
    ((s.ports.get h).held = true ∨ (s.ports.get h).phase ≠ .response → (s.ports.get h).dataOut = 0xFF) ∧
    ((s.ports.get h).held = false → (s.ports.get h).phase = .response →
      (∀ b : Byte, (s.ports.get h).response[(s.ports.get h).shifted]? = some b → (s.ports.get h).dataOut = b) ∧
      ((s.ports.get h).response.length ≤ (s.ports.get h).shifted → (s.ports.get h).dataOut = 0xFF) ∧
      ∃ t : State, exec i s = .next t ∧
        (t.ports.get h).dataOut =
          ((s.ports.get h).response[(s.ports.get h).shifted + row.length]?).getD 0xFF)

/-- The generic checks of R173, in their order, on a request that a row spells whole on a listening port: each refusal
changes nothing but the port, which holds a response with the status of the first check that fails and no payload. The
last clause is UNKNOWN_COMMAND's own: every code that names no command, with any parameters, is so refused. -/
def Obligations.GenericChecksInOrder : Prop :=
  (∀ (s : State) (i : Instr) (h : HostId) (row : List Byte), i.Spells h row → s.Listening h →
    (row.length = 5 → 1530 < requestLength row → exec i s = .next (s.answered h row (requestTag row) 0x02 [])) ∧
    (requestLength row ≤ 1530 → row.length = requestLength row + 6 →
      (byteSum row ≠ 0 → exec i s = .next (s.answered h row (requestTag row) 0x01 [])) ∧
      (byteSum row = 0 → Command.ofCode (byteAt row 0) = none →
        exec i s = .next (s.answered h row (requestTag row) 0x03 [])) ∧
      ∀ c : Command, byteSum row = 0 → Command.ofCode (byteAt row 0) = some c →
        (c.admitsLength (requestLength row) = false →
          exec i s = .next (s.answered h row (requestTag row) 0x02 [])) ∧
        (c.admitsLength (requestLength row) = true → (s.host h).reach = .detached → c ≠ .attach → c ≠ .identify →
          exec i s = .next (s.answered h row (requestTag row) 0x04 [])) ∧
        (c.admitsLength (requestLength row) = true → (s.host h).reach ≠ .detached → c = .attach →
          exec i s = .next (s.answered h row (requestTag row) 0x05 [])))) ∧
  ∀ (s : State) (h : HostId) (code : Byte) (tag : Word16) (p : List Byte), s.Listening h → p.length ≤ 1530 →
    Command.ofCode code = none →
    exec (.unknownCommand h code (requestBytes code tag p)) s = .next (s.responded h code tag p 0x03 [])

/-- The 38 codes that name a command are those of section 11.3, each naming the command that stands there with it, and
each command but SUBMIT admits the one parameter length that stands there with its code; SUBMIT admits 0 to 1,530. The
reachability states, tick periods and completion outcomes have the codes of section 11.4. The structures of chapter 11
have the sizes it gives: entry image 31 bytes, frame descriptor 16, notice record 10, wake block 19, completion record 4,
READ_CONFIG payload 25 or 57, device counters 48, per-host counters 44. -/
def Obligations.CommandCodesAndStructureSizes : Prop :=
  (∀ c : Command, Command.ofCode c.code = some c) ∧
  (∀ (c : Command) (m : Nat), c ≠ .submit →
    (c.admitsLength m = true ↔
      (c.code.toNat, m) ∈
        [(0x01, 0), (0x02, 0), (0x03, 0), (0x04, 0), (0x05, 2), (0x06, 0), (0x07, 0), (0x08, 0), (0x10, 10), (0x11, 3),
          (0x12, 3), (0x13, 4), (0x14, 6), (0x15, 6), (0x16, 4), (0x17, 3), (0x18, 3), (0x19, 3), (0x1A, 3), (0x1B, 7),
          (0x1C, 0), (0x20, 0), (0x21, 0), (0x30, 0), (0x31, 2), (0x32, 0), (0x38, 0), (0x39, 3), (0x3A, 0), (0x3B, 0),
          (0x3C, 7), (0x41, 0), (0x50, 0), (0x51, 22), (0x52, 2), (0x53, 2), (0x54, 2)])) ∧
  (∀ m : Nat, Command.submit.admitsLength m = true ↔ m ≤ 1530) ∧
  (∀ b : Byte, (Command.ofCode b).isSome ↔
    b.toNat ∈ [0x01, 0x02, 0x03, 0x04, 0x05, 0x06, 0x07, 0x08, 0x10, 0x11, 0x12, 0x13, 0x14, 0x15, 0x16, 0x17, 0x18,
      0x19, 0x1A, 0x1B, 0x1C, 0x20, 0x21, 0x30, 0x31, 0x32, 0x38, 0x39, 0x3A, 0x3B, 0x3C, 0x40, 0x41, 0x50, 0x51,
      0x52, 0x53, 0x54]) ∧
  ([Command.attach, .detach, .identify, .readNotices, .setNoticeMask, .readCounters, .clearCounters, .readTick, .stage,
      .bind, .yield, .setAction, .join, .leave, .offer, .accept, .refuse, .retract, .renew, .lookup, .listHeld,
      .poolStatus, .lineStatus, .readFrame, .ackFrame, .queueStatus, .doze, .sleep, .resume, .readWake, .setHostParams,
      .submit, .readCompletions, .readConfig, .propose, .endorse, .decline, .withdraw].map Command.code =
    [0x01, 0x02, 0x03, 0x04, 0x05, 0x06, 0x07, 0x08, 0x10, 0x11, 0x12, 0x13, 0x14, 0x15, 0x16, 0x17, 0x18, 0x19, 0x1A,
      0x1B, 0x1C, 0x20, 0x21, 0x30, 0x31, 0x32, 0x38, 0x39, 0x3A, 0x3B, 0x3C, 0x40, 0x41, 0x50, 0x51, 0x52, 0x53,
      0x54]) ∧
  ([Reach.detached, .awake, .dozing, .asleep, .waking, .wakeRest, .stranded].map Reach.code = [0, 1, 2, 3, 4, 5, 6] ∧
    [TickPeriod.ms1, .ms10, .ms100, .s1].map TickPeriod.code = [0, 1, 2, 3] ∧
    [TxOutcome.sent, .localSwitch, .selfDestined, .lineDown, .lineDisabled, .lineLost].map TxOutcome.code =
      [0, 1, 2, 3, 4, 5]) ∧
  (∀ (i : Index) (e : Entry), (entryImage i e).length = 31) ∧
  (∀ (rec : FrameRecord) (p : RxPosition) (m n : Nat), (descriptorBytes rec p m n).length = 16) ∧
  (∀ n : Notice, (noticeBytes n).length = 10) ∧
  (∀ c : HostCtx, (wakeBlock c).length = 19) ∧
  (∀ c : Completion, (completionBytes c).length = 4) ∧
  (∀ a : Accord, (accordBytes a).length = if a.proposal = none then 25 else 57) ∧
  (∀ d : DeviceCounters, (deviceCounterBytes d).length = 48) ∧
  ∀ c : HostCounters, (hostCounterBytes c).length = 44

/-- R122: an asleep host is refused ASLEEP for every command but RESUME, DETACH, IDENTIFY, READ_NOTICES, READ_WAKE and
READ_TICK, with no effect, before every other check of the command; each of those six is accepted; and a DETACHED host is
refused NOT_ATTACHED for every command but ATTACH and IDENTIFY. -/
def Obligations.CommandsOfAnAsleepOrDetachedHost : Prop :=
  ∀ (s : State) (h : HostId) (c : Command) (tag : Word16) (p : List Byte), s.Listening h →
    c.admitsLength p.length = true →
    (s.asleep h = true → c.whileAsleep = false → c ≠ .attach →
      exec (Instr.ofRequest h c (requestBytes c.code tag p)) s = .next (s.responded h c.code tag p 0x06 [])) ∧
    (s.asleep h = true → c.whileAsleep = true →
      ∃ (t : State) (payload : List Byte),
        exec (Instr.ofRequest h c (requestBytes c.code tag p)) s = .next (t.responded h c.code tag p 0x00 payload)) ∧
    ((s.host h).reach = .detached → c ≠ .attach → c ≠ .identify →
      exec (Instr.ofRequest h c (requestBytes c.code tag p)) s = .next (s.responded h c.code tag p 0x04 []))

/-- Every request row that completes its request on a listening port is answered at that event: the port is in RESPONSE
with a response that carries a status of 0x00 to 0x20, the request's tag and a payload with its length, and whose bytes
sum to 0 modulo 256 (R172, R175, R189). -/
def Obligations.EveryWholeRequestIsAnswered : Prop :=
  ∀ (s : State) (i : Instr) (h : HostId) (row : List Byte), i.Spells h row → s.Listening h →
    requestEnd row = some row.length →
    ∃ (t : State) (status : Byte) (payload : List Byte),
      exec i s = .next (t.answered h row (requestTag row) status payload) ∧ status.toNat ≤ 0x20 ∧
        byteSum (responseFrame status (requestTag row) payload) = 0

/-- A request refused with any status other than OK changes no state of the part but its own port, except that a refused
SUBMIT may raise the host's TX_REFUSED by one and nothing else (R174, R143). -/
def Obligations.RefusedRequestsChangeNothing : Prop :=
  ∀ (s t : State) (i : Instr) (h : HostId) (row : List Byte), i.Spells h row → s.Listening h →
    requestEnd row = some row.length → exec i s = .next t → (t.port h).response.head? ≠ some 0x00 →
    t = { s with ports := s.ports.set h (t.port h) } ∨
      (byteAt row 0 = 0x40 ∧
        t = { s with
          hosts := s.hosts.set h
            { s.host h with
              counters := { (s.host h).counters with txRefused := bump (s.host h).counters.txRefused } }
          ports := s.ports.set h (t.port h) })

/-! ### Attachment -/

/-- ATTACH of a DETACHED host (R178, R123): AWAKE with the initial per-host parameters, a cleared wake cause record,
every per-host counter 0, an empty notice list with lost count 0, the full mask, next sequence number 0, and nothing
else changed; the response carries the port number and the configuration generation. -/
def Obligations.AttachMakesTheHostAwake : Prop :=
  ∀ (s : State) (h : HostId) (tag : Word16), s.Listening h → (s.host h).reach = .detached →
    exec (.attach h (requestBytes 0x01 tag [])) s = .next
      (({ s with
          hosts := s.hosts.set h
            { s.host h with
              reach := .awake
              params := ⟨8, 10, 5, 30, 3, .hold, false⟩
              wake := some ⟨none, none, none, 0, false, none, 0⟩
              counters := ⟨0, 0, 0, 0, 0, 0, 0, 0, 0, 0, 0⟩
              notices := []
              lost := 0
              mask := some 0x7FFF }
          arbiter := { s.arbiter with hosts := s.arbiter.hosts.set h { s.tx h with nextSequence := some 0 } } }).responded
        h 0x01 tag [] 0x00 (byte h.toNat :: word16Bytes s.accord.generation))

/-- The detach clean-up, by DETACH with cause COMMAND and by the assertion of the port reset input of an attached host
with cause PORT_RESET (R179, R177): what it leaves of the table, the host, its transmit side and its port, and what it
leaves alone. Every other host is told, in this order, of the host's own offers ended WITHDRAWN (R46), of its offers to
the host ended REFUSED (R47), each in ascending order of entry index, and of a pending proposal. A proposal of the host
ends WITHDRAWN; a voter is removed with its vote, and the proposal is applied when every remaining vote is ENDORSED or
none remains, and is otherwise left pending; any other detach leaves it as it is (R167, R168, R91). The references of
the host's positions, and of a reception that an application ends, are dropped, in the model's order
(notes/assumptions/10). An abort of the transaction goes with the port reset. -/
def Obligations.DetachCleansUp : Prop :=
  (∀ (s : State) (h : HostId) (tag : Word16), s.Heard h →
    ∃ t : State, exec (.detach h (requestBytes 0x02 tag [])) s = .next (t.responded h 0x02 tag [] 0x00 []) ∧
      t.DetachedFrom s h .command) ∧
  ∀ (s : State) (h : HostId), s.resetting = none → (s.host h).reach ≠ .detached →
    ∃ t : State, exec (.portReset h) s = .next t ∧ t.DetachedFrom s h .portReset ∧
      t.port h = { phase := .idle, request := [], response := [], shifted := 0, held := true,
                   lastDetach := some .portReset }

/-- IDENTIFY from any host, READ_TICK and READ_WAKE from any attached host change nothing and answer with what R180, R52
and R138 list. -/
def Obligations.StatusReadsOfEveryHost : Prop :=
  ∀ (s : State) (h : HostId) (tag : Word16), s.Listening h →
    exec (.identify h (requestBytes 0x03 tag [])) s = .next
      (s.responded h 0x03 tag [] 0x00
        ([0x56, 0x43, 0x04, 0x64, 0x01, byte h.toNat, byte (s.host h).reach.code,
            match s.resetCause with
            | .powerOn => 0
            | .resetPin => 1,
            match (s.port h).lastDetach with
            | none => 0xFF
            | some .command => 0
            | some .portReset => 1] ++
          word16Bytes s.accord.generation ++ word32Bytes s.tick.count)) ∧
    ((s.host h).reach ≠ .detached →
      exec (.readTick h (requestBytes 0x08 tag [])) s = .next
        (s.responded h 0x08 tag [] 0x00
          (word32Bytes s.tick.count ++ [byte s.tick.period.code, byte s.accord.config.tickPeriod.code])) ∧
      exec (.readWake h (requestBytes 0x3B tag [])) s = .next
        (s.responded h 0x3B tag [] 0x00 (wakeBlock (s.host h))))

/-! ### Notices, the sideband lines and counters -/

/-- A notice raised for an attached host is appended, and discarded with the lost count raised by one, up to 255, when
the list holds 16 records; none is raised for a DETACHED host (R182). READ_NOTICES removes and returns every record and
sets the lost count to 0, and is accepted from an attached host in every reachability state (R183). A notice record is
its kind, its entry's index and generation, 0xFF and 0 where the kind names none, its four detail bytes and its stamp
(section 11.7, R188). -/
def Obligations.NoticeListKeepsAndGivesNotices : Prop :=
  (∀ (s : State) (h : HostId) (r : Report),
    ((s.host h).reach = .detached → s.notify h r = s) ∧
    ((s.host h).reach ≠ .detached → (s.host h).notices.length < 16 →
      s.notify h r =
        { s with
          hosts := s.hosts.set h
            { s.host h with notices := (s.host h).notices ++ [⟨r, BitVec.setWidth 16 s.tick.count⟩] } }) ∧
    ((s.host h).reach ≠ .detached → 16 ≤ (s.host h).notices.length →
      s.notify h r =
        { s with
          hosts := s.hosts.set h
            { s.host h with lost := if (s.host h).lost < 255 then (s.host h).lost + 1 else (s.host h).lost } })) ∧
  (∀ (s : State) (hs : List HostId) (r : Report), hs.Nodup →
    (∀ k : HostId, (s.notifyAll hs r).host k = if k ∈ hs then (s.notify k r).host k else s.host k) ∧
    { s.notifyAll hs r with hosts := s.hosts } = s) ∧
  (∀ (s : State) (h : HostId) (tag : Word16), s.Heard h →
    exec (.readNotices h (requestBytes 0x04 tag [])) s = .next
      (({ s with hosts := s.hosts.set h { s.host h with notices := [], lost := 0 } }).responded h 0x04 tag [] 0x00
        ([byte (s.host h).lost, byte (s.host h).notices.length] ++ (s.host h).notices.flatMap noticeBytes))) ∧
  ∀ (stamp g : Word16) (i : Index) (e : EntryRef), e = ⟨i, g⟩ →
    let named (kind : Nat) (detail : List Byte) : List Byte :=
      [byte kind, byte i.val] ++ word16Bytes g ++ detail ++ word16Bytes stamp
    let general (kind : Nat) (detail : List Byte) : List Byte :=
      [byte kind, 0xFF, 0, 0] ++ detail ++ word16Bytes stamp
    noticeBytes ⟨.stageProbed e, stamp⟩ = named 0 [0, 0, 0, 0] ∧
    (∀ c : ClaimState,
      noticeBytes ⟨.stageConflict e c, stamp⟩ = named 1 [byte c.code, 0, 0, 0] ∧
      noticeBytes ⟨.stageLapsed e c, stamp⟩ = named 2 [byte c.code, 0, 0, 0] ∧
      noticeBytes ⟨.leaseEnded e c, stamp⟩ = named 4 [byte c.code, 0, 0, 0]) ∧
    (∀ n : Nat,
      noticeBytes ⟨.leaseLapsing e n, stamp⟩ = named 3 [byte n, 0, 0, 0] ∧
      noticeBytes ⟨.addressCollision e n, stamp⟩ = named 5 [byte n, 0, 0, 0]) ∧
    (∀ k : HostId,
      noticeBytes ⟨.offerReceived e k, stamp⟩ = named 6 [byte k.toNat, 0, 0, 0] ∧
      (∀ (o : OfferOutcome) (offered : Word16),
        noticeBytes ⟨.offerResolved e o k offered, stamp⟩ =
          named 7 ([byte o.code, byte k.toNat] ++ word16Bytes offered)) ∧
      ∀ serial : Word16,
        noticeBytes ⟨.accordRequest k serial, stamp⟩ = general 8 (byte k.toNat :: word16Bytes serial ++ [0]) ∧
        noticeBytes ⟨.accordOutcome .declined serial (some k), stamp⟩ =
          general 9 (1 :: word16Bytes serial ++ [byte k.toNat])) ∧
    (∀ (o : AccordOutcome) (serial : Word16),
      noticeBytes ⟨.accordOutcome o serial none, stamp⟩ = general 9 (byte o.code :: word16Bytes serial ++ [0xFF])) ∧
    (∀ generation : Word16,
      noticeBytes ⟨.configApplied generation, stamp⟩ = general 10 (word16Bytes generation ++ [0, 0])) ∧
    noticeBytes ⟨.lineUp, stamp⟩ = general 11 [0, 0, 0, 0] ∧
    noticeBytes ⟨.lineDown, stamp⟩ = general 12 [0, 0, 0, 0] ∧
    ([ClaimState.probing, .probed, .conflicted, .live, .lapsing].map ClaimState.code = [1, 2, 3, 4, 5] ∧
      [OfferOutcome.accepted, .refused, .withdrawn, .lapsed].map OfferOutcome.code = [0, 1, 2, 3] ∧
      [AccordOutcome.applied, .declined, .lapsed, .withdrawn].map AccordOutcome.code = [0, 1, 2, 3])

/-- SET_NOTICE_MASK replaces the mask, unless bit 15, which names no member, is set (R184, R187). The attention line is
asserted exactly while the part runs, the host is attached, and a record's kind is in the mask, or RX is in it and
receive readiness holds, or TX is in it and the completion ring is not empty (R184, R181); the wake line exactly in
WAKING (R128). Receive readiness holds in AWAKE with a receive queue that is not empty, in DOZING with the doze threshold
of frames or delay reached, and in no other state (R116). A DETACHED host, which has no mask, has both lines released
(R128, R179, R184). -/
def Obligations.MaskAndSidebandLines : Prop :=
  (∀ (s : State) (h : HostId) (tag mask : Word16), s.Ready h →
    (mask.getLsbD 15 = true →
      exec (.setNoticeMask h (requestBytes 0x05 tag (word16Bytes mask))) s = .next
        (s.responded h 0x05 tag (word16Bytes mask) 0x08 [])) ∧
    (mask.getLsbD 15 = false →
      exec (.setNoticeMask h (requestBytes 0x05 tag (word16Bytes mask))) s = .next
        (({ s with hosts := s.hosts.set h { s.host h with mask := some mask } }).responded h 0x05 tag (word16Bytes mask)
          0x00 (word16Bytes mask)))) ∧
  ∀ (s : State) (h : HostId),
    let c := s.host h
    let ready : Prop :=
      (c.reach = .awake ∧ c.rxQueue ≠ []) ∨
        (c.reach = .dozing ∧ (c.params.dozeThreshold ≤ c.rxQueue.length ∨ c.delayReached = true))
    (c.ready = true ↔ ready) ∧
    (∀ mask : Word16, c.mask = some mask →
      (s.attention h = true ↔
        s.resetting = none ∧ c.reach ≠ .detached ∧
          ((∃ n ∈ c.notices, mask.getLsbD n.report.kindCode = true) ∨ (mask.getLsbD 13 = true ∧ ready) ∨
            (mask.getLsbD 14 = true ∧ (s.tx h).ring ≠ [])))) ∧
    (s.wakeLine h = true ↔ s.resetting = none ∧ c.reach = .waking) ∧
    (c.mask = none ∨ c.reach = .detached → s.attention h = false) ∧
    (c.reach = .detached → s.wakeLine h = false)

/-- READ_COUNTERS returns the device counters, the host's own counters and the tick count, in the order of section 11.9,
and changes nothing; CLEAR_COUNTERS sets the host's own counters to 0 and nothing else (R185). A counter that is raised
goes up by one and stops at 4,294,967,295 (00_scope.md, "Numbers and quantities"). -/
def Obligations.CountersReadAndCleared : Prop :=
  ((∀ n : Nat, n < 4294967295 → bump n = n + 1) ∧ bump 4294967295 = 4294967295) ∧
  ∀ (s : State) (h : HostId) (tag : Word16), s.Ready h →
    (∀ (d : DeviceCounters) (c : HostCounters), s.line.counters = d → (s.host h).counters = c →
      exec (.readCounters h (requestBytes 0x06 tag [])) s = .next
        (s.responded h 0x06 tag [] 0x00
          (nat32Bytes d.lineGood ++ nat32Bytes d.runt ++ nat32Bytes d.giant ++ nat32Bytes d.badCheck ++
            nat32Bytes d.lineLost ++ nat32Bytes d.lineDisabled ++ nat32Bytes d.noHandle ++ nat32Bytes d.noCells ++
            nat32Bytes d.unknownDiscarded ++ nat32Bytes d.groupUnmatched ++ nat32Bytes d.noTaker ++
            nat32Bytes d.txSent ++ nat32Bytes c.delivered ++ nat32Bytes c.held ++ nat32Bytes c.dropQueueFull ++
            nat32Bytes c.dropHoldFull ++ nat32Bytes c.dropQuota ++ nat32Bytes c.dropAsleep ++
            nat32Bytes c.dropStranded ++ nat32Bytes c.submitted ++ nat32Bytes c.txRefused ++ nat32Bytes c.wakes ++
            nat32Bytes c.strandings ++ word32Bytes s.tick.count))) ∧
    exec (.clearCounters h (requestBytes 0x07 tag [])) s = .next
      (({ s with
          hosts := s.hosts.set h { s.host h with counters := ⟨0, 0, 0, 0, 0, 0, 0, 0, 0, 0, 0⟩ } }).responded
        h 0x07 tag [] 0x00 [])

/-! ### The station table -/

/-- STAGE: the checks of R23 in their order, and the claim an accepted STAGE makes in the lowest-indexed FREE entry
(R24, R8, R9). -/
def Obligations.StageClaimsTheLowestFreeEntry : Prop :=
  ∀ (s : State) (h : HostId) (tag : Word16) (a : Address) (act mode : Byte) (reload : Word16) (p : List Byte),
    p = addressBytes a ++ [act, mode] ++ word16Bytes reload → s.Heard h → s.TableLaw →
    let out := exec (.stage h (requestBytes 0x10 tag p)) s
    let bad := isGroupAddress a = true ∨ a = 0 ∨ 2 < act.toNat ∨ 2 < mode.toNat ∨ (mode = 0 ∧ reload ≠ 0) ∨
      (mode ≠ 0 ∧ reload = 0)
    (s.asleep h = true → out = .next (s.responded h 0x10 tag p 0x06 [])) ∧
    (s.asleep h = false → bad → out = .next (s.responded h 0x10 tag p 0x08 [])) ∧
    (s.asleep h = false → ¬ bad →
      (∀ (i : Index) (c : Claim), (s.entry i).use = .unicast c → c.address = a →
        (c.owner = h →
          out = .next (s.responded h 0x10 tag p 0x0A
            (byte i.val :: word16Bytes (s.entry i).generation ++ [byte c.state.code]))) ∧
        (c.owner ≠ h → c.state.staged = true → out = .next (s.responded h 0x10 tag p 0x0B [])) ∧
        (c.owner ≠ h → c.state.staged = false → out = .next (s.responded h 0x10 tag p 0x0C []))) ∧
      ((∀ j : Index, (s.entry j).address? ≠ some a) →
        (s.accord.config.entryLimit.get h ≤ s.holdings h → out = .next (s.responded h 0x10 tag p 0x0D [])) ∧
        (s.holdings h < s.accord.config.entryLimit.get h →
          ((∀ j : Index, (s.entry j).use ≠ .free) → out = .next (s.responded h 0x10 tag p 0x0E [])) ∧
          ∀ (i : Index) (action : SleepAction) (leaseMode : LeaseMode), s.FirstFree i →
            act = byte action.code → mode = byte leaseMode.code →
            out = .next
              (({ s with
                  table := s.table.set i
                    { generation := (s.entry i).generation + 1
                      use := .unicast
                        { address := a
                          owner := h
                          state := if s.accord.config.probeWindow = 0 then .probed else .probing
                          action := action
                          mode := leaseMode
                          reload := if leaseMode = LeaseMode.pinned then none else some reload.toNat
                          stageTimer := some (if s.accord.config.probeWindow = 0 then s.accord.config.stageHold
                            else s.accord.config.probeWindow)
                          leaseRemaining := none
                          activitySeen := none
                          graceRemaining := none
                          offer := none
                          hits := 0
                          collisions := none } } }).responded h 0x10 tag p 0x00
                (byte i.val :: word16Bytes ((s.entry i).generation + 1) ++
                  [if s.accord.config.probeWindow = 0 then 2 else 1])))))

/-- BIND (R28): the checks in their order; a PROBED claim goes to LIVE with collision count 0, its stage timer absent and
its lease remaining the lease reload, absent with PINNED, and activity seen no for ACTIVITY; its generation is kept. -/
def Obligations.BindTakesAProbedClaimToLive : Prop :=
  ∀ (s : State) (h : HostId) (tag g : Word16) (k : Byte) (p : List Byte), p = k :: word16Bytes g → s.Heard h →
    let out := exec (.bind h (requestBytes 0x11 tag p)) s
    (s.asleep h = true → out = .next (s.responded h 0x11 tag p 0x06 [])) ∧
    (s.asleep h = false → 63 < k.toNat → out = .next (s.responded h 0x11 tag p 0x08 [])) ∧
    (s.asleep h = false → ∀ i : Index, k = byte i.val →
      ((¬ ∃ c, s.Holds h i g c) → out = .next (s.responded h 0x11 tag p 0x09 [])) ∧
      ∀ c : Claim, s.Holds h i g c →
        (c.state = .probing → out = .next (s.responded h 0x11 tag p 0x0F [])) ∧
        (c.state = .conflicted → out = .next (s.responded h 0x11 tag p 0x10 [])) ∧
        (c.state = .live ∨ c.state = .lapsing → out = .next (s.responded h 0x11 tag p 0x07 [])) ∧
        (c.state = .probed → c.Lawful →
          out = .next
            (({ s with
                table := s.table.set i
                  { generation := g
                    use := .unicast
                      { c with
                        state := .live
                        stageTimer := none
                        leaseRemaining := if c.mode = LeaseMode.pinned then none else c.reload
                        activitySeen := if c.mode = LeaseMode.activity then some false else none
                        collisions := some 0 } } }).responded h 0x11 tag p 0x00
              (byte i.val :: word16Bytes g ++ [4]))))

/-- YIELD (R30): the checks in their order; the host's claim returns to FREE from any state, its generation kept, and
the target of a pending offer is told WITHDRAWN, with the owner as the other party (R45). -/
def Obligations.YieldFreesTheClaim : Prop :=
  ∀ (s : State) (h : HostId) (tag g : Word16) (k : Byte) (p : List Byte), p = k :: word16Bytes g → s.Heard h →
    let out := exec (.yield h (requestBytes 0x12 tag p)) s
    (s.asleep h = true → out = .next (s.responded h 0x12 tag p 0x06 [])) ∧
    (s.asleep h = false → 63 < k.toNat → out = .next (s.responded h 0x12 tag p 0x08 [])) ∧
    (s.asleep h = false → ∀ i : Index, k = byte i.val →
      ((¬ ∃ c, s.Holds h i g c) → out = .next (s.responded h 0x12 tag p 0x09 [])) ∧
      ∀ c : Claim, s.Holds h i g c →
        let t : State := { s with table := s.table.set i { generation := g, use := .free } }
        (c.offer = none → out = .next (t.responded h 0x12 tag p 0x00 [])) ∧
        ∀ o : Offer, c.offer = some o →
          out = .next ((t.notify o.target (.offerResolved ⟨i, g⟩ .withdrawn h g)).responded h 0x12 tag p 0x00 []))

/-- SET_ACTION (R32): the checks in their order; a LIVE or LAPSING claim of the host takes the sleep action and nothing
else of it changes. -/
def Obligations.SetActionChangesTheSleepAction : Prop :=
  ∀ (s : State) (h : HostId) (tag g : Word16) (k act : Byte) (p : List Byte),
    p = k :: word16Bytes g ++ [act] → s.Heard h →
    let out := exec (.setAction h (requestBytes 0x13 tag p)) s
    (s.asleep h = true → out = .next (s.responded h 0x13 tag p 0x06 [])) ∧
    (s.asleep h = false → 63 < k.toNat ∨ 2 < act.toNat → out = .next (s.responded h 0x13 tag p 0x08 [])) ∧
    (s.asleep h = false → ∀ (i : Index) (action : SleepAction), k = byte i.val → act = byte action.code →
      ((¬ ∃ c, s.Holds h i g c) → out = .next (s.responded h 0x13 tag p 0x09 [])) ∧
      ∀ c : Claim, s.Holds h i g c →
        (c.state.staged = true → out = .next (s.responded h 0x13 tag p 0x07 [])) ∧
        (c.state.staged = false →
          out = .next
            (({ s with
                table := s.table.set i { generation := g, use := .unicast { c with action := action } } }).responded
              h 0x13 tag p 0x00 [])))

/-- JOIN (R33) and LEAVE (R34): the checks in their order; a host joins the group entry that holds the address or
creates one in the lowest-indexed FREE entry, and a leaving host is removed, the last member's leaving returning the
entry to FREE with its generation kept. -/
def Obligations.JoinAndLeaveChangeTheMembers : Prop :=
  ∀ (s : State) (h : HostId) (tag : Word16) (a : Address), s.Heard h → s.TableLaw →
    let p := addressBytes a
    let join := exec (.join h (requestBytes 0x14 tag p)) s
    let leave := exec (.leave h (requestBytes 0x15 tag p)) s
    let bad := isGroupAddress a = false ∨ a = 0xFFFFFFFFFFFF
    (s.asleep h = true →
      join = .next (s.responded h 0x14 tag p 0x06 []) ∧ leave = .next (s.responded h 0x15 tag p 0x06 [])) ∧
    (s.asleep h = false → bad →
      join = .next (s.responded h 0x14 tag p 0x08 []) ∧ leave = .next (s.responded h 0x15 tag p 0x08 [])) ∧
    (s.asleep h = false → ¬ bad →
      (∀ (i : Index) (grp : Group), (s.entry i).use = .group grp → grp.address = a →
        (grp.members.get h = true → join = .next (s.responded h 0x14 tag p 0x14 [])) ∧
        (grp.members.get h = false →
          join = .next
            (({ s with
                table := s.table.set i
                  { generation := (s.entry i).generation
                    use := .group { grp with members := grp.members.set h true } } }).responded h 0x14 tag p 0x00
              (byte i.val :: word16Bytes (s.entry i).generation ++ [0])) ∧
          leave = .next (s.responded h 0x15 tag p 0x13 [])) ∧
        (grp.members.get h = true → (∃ k : HostId, k ≠ h ∧ grp.members.get k = true) →
          leave = .next
            (({ s with
                table := s.table.set i
                  { generation := (s.entry i).generation
                    use := .group { grp with members := grp.members.set h false } } }).responded h 0x15 tag p 0x00 [])) ∧
        (grp.members.get h = true → (∀ k : HostId, k ≠ h → grp.members.get k = false) →
          leave = .next
            (({ s with
                table := s.table.set i { generation := (s.entry i).generation, use := .free } }).responded
              h 0x15 tag p 0x00 []))) ∧
      ((∀ j : Index, (s.entry j).address? ≠ some a) →
        leave = .next (s.responded h 0x15 tag p 0x13 []) ∧
        ((∀ j : Index, (s.entry j).use ≠ .free) → join = .next (s.responded h 0x14 tag p 0x0E [])) ∧
        ∀ i : Index, s.FirstFree i →
          join = .next
            (({ s with
                table := s.table.set i
                  { generation := (s.entry i).generation + 1
                    use := .group
                      { address := a
                        members := (PerHost.same false).set h true
                        hits := 0 } } }).responded h 0x14 tag p 0x00
              (byte i.val :: word16Bytes ((s.entry i).generation + 1) ++ [1]))))

/-- OFFER (R36): the checks in their order; the host's LIVE claim takes an offer to the target with the stage hold as
its remaining count, and the target is told OFFER_RECEIVED. -/
def Obligations.OfferNamesTheTarget : Prop :=
  ∀ (s : State) (h : HostId) (tag g : Word16) (k target : Byte) (p : List Byte),
    p = k :: word16Bytes g ++ [target] → s.Heard h →
    let out := exec (.offer h (requestBytes 0x16 tag p)) s
    let bad := 63 < k.toNat ∨ 3 < target.toNat ∨ ∃ t : HostId, target = byte t.toNat ∧
      (t = h ∨ (s.host t).reach = .detached)
    (s.asleep h = true → out = .next (s.responded h 0x16 tag p 0x06 [])) ∧
    (s.asleep h = false → bad → out = .next (s.responded h 0x16 tag p 0x08 [])) ∧
    (s.asleep h = false → ¬ bad → ∀ (i : Index) (t : HostId), k = byte i.val → target = byte t.toNat →
      ((¬ ∃ c, s.Holds h i g c) → out = .next (s.responded h 0x16 tag p 0x09 [])) ∧
      ∀ c : Claim, s.Holds h i g c →
        (c.state ≠ .live → out = .next (s.responded h 0x16 tag p 0x07 [])) ∧
        (c.state = .live → c.offer.isSome → out = .next (s.responded h 0x16 tag p 0x11 [])) ∧
        (c.state = .live → c.offer = none →
          out = .next
            ((({ s with
                table := s.table.set i
                  { generation := g
                    use := .unicast { c with offer := some ⟨t, s.accord.config.stageHold⟩ } } } : State).notify t
                (.offerReceived ⟨i, g⟩ h)).responded h 0x16 tag p 0x00 [])))

/-- ACCEPT (R38, R39): the checks in their order; the claim passes to the accepting target under the next generation,
its offer cleared, a LIVE claim's lease started again and a LAPSING claim's grace kept; the old owner is told ACCEPTED,
with the generation under which the offer was made (R45). -/
def Obligations.AcceptPassesTheClaim : Prop :=
  ∀ (s : State) (h : HostId) (tag g : Word16) (k : Byte) (p : List Byte), p = k :: word16Bytes g → s.Heard h →
    let out := exec (.accept h (requestBytes 0x17 tag p)) s
    (s.asleep h = true → out = .next (s.responded h 0x17 tag p 0x06 [])) ∧
    (s.asleep h = false → 63 < k.toNat → out = .next (s.responded h 0x17 tag p 0x08 [])) ∧
    (s.asleep h = false → ∀ i : Index, k = byte i.val →
      ((s.entry i).use = .free ∨ (s.entry i).generation ≠ g → out = .next (s.responded h 0x17 tag p 0x09 [])) ∧
      ((s.entry i).use ≠ .free → (s.entry i).generation = g →
        ((∀ (c : Claim) (o : Offer), (s.entry i).use = .unicast c → c.offer = some o → o.target ≠ h) →
          out = .next (s.responded h 0x17 tag p 0x12 [])) ∧
        ∀ (c : Claim) (o : Offer), (s.entry i).use = .unicast c → c.offer = some o → o.target = h →
          (s.accord.config.entryLimit.get h ≤ s.holdings h → out = .next (s.responded h 0x17 tag p 0x0D [])) ∧
          (s.holdings h < s.accord.config.entryLimit.get h → c.Lawful →
            let claim : Claim :=
              if c.state = .live then
                { c with
                  owner := h
                  offer := none
                  leaseRemaining := if c.mode = LeaseMode.pinned then none else c.reload
                  activitySeen := if c.mode = LeaseMode.activity then some false else none }
              else { c with owner := h, offer := none }
            out = .next
              ((({ s with
                  table := s.table.set i { generation := g + 1, use := .unicast claim } } : State).notify c.owner
                  (.offerResolved ⟨i, g + 1⟩ .accepted h g)).responded h 0x17 tag p 0x00
                (byte i.val :: word16Bytes (g + 1))))))

/-- REFUSE (R40) and RETRACT (R41): the checks in their order; the offer is cleared and nothing else of the entry, and
the owner is told REFUSED, or the target WITHDRAWN, each with the other party (R45). -/
def Obligations.RefuseAndRetractClearTheOffer : Prop :=
  ∀ (s : State) (h : HostId) (tag g : Word16) (k : Byte) (p : List Byte), p = k :: word16Bytes g → s.Heard h →
    let refuse := exec (.refuse h (requestBytes 0x18 tag p)) s
    let retract := exec (.retract h (requestBytes 0x19 tag p)) s
    (s.asleep h = true →
      refuse = .next (s.responded h 0x18 tag p 0x06 []) ∧ retract = .next (s.responded h 0x19 tag p 0x06 [])) ∧
    (s.asleep h = false → 63 < k.toNat →
      refuse = .next (s.responded h 0x18 tag p 0x08 []) ∧ retract = .next (s.responded h 0x19 tag p 0x08 [])) ∧
    (s.asleep h = false → ∀ i : Index, k = byte i.val →
      ((s.entry i).use = .free ∨ (s.entry i).generation ≠ g → refuse = .next (s.responded h 0x18 tag p 0x09 [])) ∧
      ((s.entry i).use ≠ .free → (s.entry i).generation = g →
        ((∀ (c : Claim) (o : Offer), (s.entry i).use = .unicast c → c.offer = some o → o.target ≠ h) →
          refuse = .next (s.responded h 0x18 tag p 0x12 [])) ∧
        ∀ (c : Claim) (o : Offer), (s.entry i).use = .unicast c → c.offer = some o → o.target = h →
          refuse = .next
            ((({ s with
                table := s.table.set i { generation := g, use := .unicast { c with offer := none } } } : State).notify
                c.owner (.offerResolved ⟨i, g⟩ .refused h g)).responded h 0x18 tag p 0x00 [])) ∧
      ((¬ ∃ c, s.Holds h i g c) → retract = .next (s.responded h 0x19 tag p 0x09 [])) ∧
      ∀ c : Claim, s.Holds h i g c →
        (c.offer = none → retract = .next (s.responded h 0x19 tag p 0x12 [])) ∧
        ∀ o : Offer, c.offer = some o →
          retract = .next
            ((({ s with
                table := s.table.set i { generation := g, use := .unicast { c with offer := none } } } : State).notify
                o.target (.offerResolved ⟨i, g⟩ .withdrawn h g)).responded h 0x19 tag p 0x00 []))

/-- RENEW (R61): the checks in their order; a LIVE or LAPSING claim with a FIXED or ACTIVITY lease is LIVE with lease
remaining the lease reload, grace absent, and activity seen no for ACTIVITY; the response carries the lease remaining. -/
def Obligations.RenewGivesAFullLease : Prop :=
  ∀ (s : State) (h : HostId) (tag g : Word16) (k : Byte) (p : List Byte), p = k :: word16Bytes g → s.Heard h →
    let out := exec (.renew h (requestBytes 0x1A tag p)) s
    (s.asleep h = true → out = .next (s.responded h 0x1A tag p 0x06 [])) ∧
    (s.asleep h = false → 63 < k.toNat → out = .next (s.responded h 0x1A tag p 0x08 [])) ∧
    (s.asleep h = false → ∀ i : Index, k = byte i.val →
      ((¬ ∃ c, s.Holds h i g c) → out = .next (s.responded h 0x1A tag p 0x09 [])) ∧
      ∀ c : Claim, s.Holds h i g c →
        (c.state.staged = true ∨ c.mode = .pinned → out = .next (s.responded h 0x1A tag p 0x07 [])) ∧
        (c.state.staged = false → c.Lawful → ∀ n : Nat, c.reload = some n →
          out = .next
            (({ s with
                table := s.table.set i
                  { generation := g
                    use := .unicast
                      { c with
                        state := .live
                        leaseRemaining := some n
                        activitySeen := if c.mode = LeaseMode.activity then some false else none
                        graceRemaining := none } } }).responded h 0x1A tag p 0x00
              (byte i.val :: word16Bytes g ++ [4] ++ nat16Bytes n))))

/-- LOOKUP (R19, R20) and LIST_HELD (R21) change nothing: LOOKUP answers with the image of the entry at an index, FREE
or not, or of the one entry that holds an address; LIST_HELD with the host's holdings, its entry limit and one item of
index, generation, state and relation for each entry that stands in a relation to the host, in ascending order. The
holdings are the number of UNICAST entries that the host owns (R17); the relation is OWNED, MEMBER or OFFERED (R21); the
image of a FREE, a GROUP and a UNICAST entry has the fields and presence bits of R20 and section 11.6, an absent field
being 0, or 0xFF for the owner and the target of an offer (R188). -/
def Obligations.TableReads : Prop :=
  ∀ (s : State) (h : HostId) (tag : Word16) (rest : List Byte), rest.length = 5 → s.Ready h → s.TableLaw →
    (∀ k : Byte, 63 < k.toNat →
      exec (.lookup h (requestBytes 0x1B tag (0 :: k :: rest))) s = .next (s.responded h 0x1B tag (0 :: k :: rest) 0x08 [])) ∧
    (∀ i : Index,
      exec (.lookup h (requestBytes 0x1B tag (0 :: byte i.val :: rest))) s = .next
        (s.responded h 0x1B tag (0 :: byte i.val :: rest) 0x00 (entryImage i (s.entry i)))) ∧
    (∀ sel k : Byte, 1 < sel.toNat →
      exec (.lookup h (requestBytes 0x1B tag (sel :: k :: rest))) s = .next
        (s.responded h 0x1B tag (sel :: k :: rest) 0x08 [])) ∧
    (∀ a : Address,
      ((∀ j : Index, (s.entry j).address? ≠ some a) →
        exec (.lookup h (requestBytes 0x1B tag (1 :: addressBytes a))) s = .next
          (s.responded h 0x1B tag (1 :: addressBytes a) 0x09 [])) ∧
      ∀ i : Index, (s.entry i).address? = some a →
        exec (.lookup h (requestBytes 0x1B tag (1 :: addressBytes a))) s = .next
          (s.responded h 0x1B tag (1 :: addressBytes a) 0x00 (entryImage i (s.entry i)))) ∧
    (s.holdings h =
        ((List.finRange 64).filter (fun i => (s.entry i).claim?.any (fun c => c.owner = h))).length ∧
      ∀ i : Index,
        let e := s.entry i
        let start (state : Byte) (bits : Word16) : List Byte :=
          [byte i.val, state] ++ word16Bytes e.generation ++ word16Bytes bits
        (e.use = .free →
          s.relation h i = none ∧
          entryImage i e = start 0 0 ++ [0, 0, 0, 0, 0, 0, 0, 0xFF, 0, 0, 0, 0, 0, 0, 0, 0, 0, 0, 0xFF, 0, 0, 0, 0, 0, 0]) ∧
        (∀ g : Group, e.use = .group g →
          (g.members.get h = true → s.relation h i = some .member ∧ Relation.member.code = 1) ∧
          (g.members.get h = false → s.relation h i = none) ∧
          let member (k : HostId) (bit : Nat) : Nat := if g.members.get k then bit else 0
          entryImage i e =
            start 4 0x0005 ++ addressBytes g.address ++
              [1, 0xFF, byte (member .h0 1 + member .h1 2 + member .h2 4 + member .h3 8), 0, 0, 0, 0, 0, 0, 0, 0, 0, 0xFF,
                0] ++ nat32Bytes g.hits ++ [0]) ∧
        ∀ c : Claim, e.use = .unicast c →
          (c.owner = h → s.relation h i = some .owned ∧ Relation.owned.code = 0) ∧
          (c.owner ≠ h →
            (∀ o : Offer, c.offer = some o → o.target = h →
              s.relation h i = some .offered ∧ Relation.offered.code = 2) ∧
            ((∀ o : Offer, c.offer = some o → o.target ≠ h) → s.relation h i = none)) ∧
          let present (there : Bool) (bit : Nat) : Nat := if there then 2 ^ bit else 0
          entryImage i e =
            start (byte c.state.code)
                (BitVec.ofNat 16
                  (3 + present c.reload.isSome 3 + present c.leaseRemaining.isSome 4 + present c.activitySeen.isSome 5 +
                    present c.graceRemaining.isSome 6 + present c.stageTimer.isSome 7 + present c.offer.isSome 8 +
                    present c.collisions.isSome 9)) ++
              addressBytes c.address ++ [0, byte c.owner.toNat, 0, byte c.action.code, byte c.mode.code] ++
              nat16Bytes (c.reload.getD 0) ++ nat16Bytes (c.leaseRemaining.getD 0) ++
              [if c.activitySeen = some true then 1 else 0, byte (c.graceRemaining.getD 0), byte (c.stageTimer.getD 0),
                match c.offer with
                | none => 0xFF
                | some o => byte o.target.toNat,
                match c.offer with
                | none => 0
                | some o => byte o.remaining] ++
              nat32Bytes c.hits ++ [byte (c.collisions.getD 0)]) ∧
    ([SleepAction.wake, .hold, .drop].map SleepAction.code = [0, 1, 2] ∧
      [LeaseMode.pinned, .fixed, .activity].map LeaseMode.code = [0, 1, 2] ∧
      [ClaimState.probing, .probed, .conflicted, .live, .lapsing].map ClaimState.code = [1, 2, 3, 4, 5]) ∧
    exec (.listHeld h (requestBytes 0x1C tag [])) s = .next
      (s.responded h 0x1C tag [] 0x00
        (byte (s.holdings h) :: byte (s.accord.config.entryLimit.get h) ::
          (List.finRange 64).flatMap (fun i =>
            match s.relation h i with
            | none => []
            | some r =>
              byte i.val :: word16Bytes (s.entry i).generation ++ [byte (s.entry i).stateCode, byte r.code])))

/-- Expiry of the probe window (R25) and of the stage hold (R27): a PROBING claim whose stage timer has reached 0 is
PROBED with the stage hold started and its owner told STAGE_PROBED; a PROBED or CONFLICTED one returns to FREE, its
generation kept, its owner told STAGE_LAPSED with the state it left. Expiry of an offer (R42): it is cleared, and owner
and target are told LAPSED. Where no such timer stands at 0, the command finds no expiry and changes nothing
(notes/assumptions/4). -/
def Obligations.StageAndOfferExpiries : Prop :=
  ∀ (s : State) (i : Index), s.resetting = none →
    (∀ c : Claim, (s.entry i).use = .unicast c →
      let ref : EntryRef := ⟨i, (s.entry i).generation⟩
      (c.state = .probing → c.stageTimer = some 0 →
        exec (.probeWindowExpiry i) s = .next
          (({ s with
              table := s.table.set i
                { s.entry i with
                  use := .unicast { c with state := .probed, stageTimer := some s.accord.config.stageHold } } } :
              State).notify c.owner (.stageProbed ref))) ∧
      (c.state = .probed ∨ c.state = .conflicted → c.stageTimer = some 0 →
        exec (.stageHoldExpiry i) s = .next
          (({ s with table := s.table.set i { s.entry i with use := .free } } : State).notify c.owner
            (.stageLapsed ref c.state))) ∧
      (c.state ≠ .probing ∨ c.stageTimer ≠ some 0 → exec (.probeWindowExpiry i) s = .next s) ∧
      (c.state.staged = false ∨ c.state = .probing ∨ c.stageTimer ≠ some 0 →
        exec (.stageHoldExpiry i) s = .next s) ∧
      (∀ o : Offer, c.offer = some o →
        (o.remaining = 0 →
          exec (.offerExpiry i) s = .next
            ((({ s with
                table := s.table.set i { s.entry i with use := .unicast { c with offer := none } } } : State).notify
                c.owner (.offerResolved ref .lapsed o.target (s.entry i).generation)).notify o.target
              (.offerResolved ref .lapsed c.owner (s.entry i).generation))) ∧
        (o.remaining ≠ 0 → exec (.offerExpiry i) s = .next s)) ∧
      (c.offer = none → exec (.offerExpiry i) s = .next s)) ∧
    ((s.entry i).claim? = none →
      exec (.probeWindowExpiry i) s = .next s ∧ exec (.stageHoldExpiry i) s = .next s ∧
        exec (.offerExpiry i) s = .next s)

/-- Run-out of a lease (R56, R58, R59) and expiry of the grace (R60): an ACTIVITY lease with activity seen, or whose owner
is ASLEEP, WAKING or WAKE_REST, is reloaded without a notice; any other goes to LAPSING with the lapse grace started and
LEASE_LAPSING to the owner, or to FREE with LEASE_ENDED when the lapse grace is 0. A grace that expires ends the claim
with LEASE_ENDED. An offer that ends with its entry is told WITHDRAWN to its target (R43). Where no such timer stands at
0, the command finds no expiry and changes nothing (notes/assumptions/4). -/
def Obligations.LeaseRunOutAndGraceExpiry : Prop :=
  ∀ (s : State) (i : Index) (c : Claim), s.resetting = none → (s.entry i).use = .unicast c → c.Lawful →
    let ref : EntryRef := ⟨i, (s.entry i).generation⟩
    let freed : State := { s with table := s.table.set i { s.entry i with use := .free } }
    let withdrawn (t : State) : State :=
      match c.offer with
      | none => t
      | some o => t.notify o.target (.offerResolved ref .withdrawn c.owner (s.entry i).generation)
    let vouched := c.mode = .activity ∧
      (c.activitySeen = some true ∨ (s.host c.owner).reach = .asleep ∨ (s.host c.owner).reach = .waking ∨
        (s.host c.owner).reach = .wakeRest)
    (c.state = .live → c.leaseRemaining = some 0 →
      (vouched →
        exec (.leaseRunOut i) s = .next
          { s with
            table := s.table.set i
              { s.entry i with
                use := .unicast { c with leaseRemaining := c.reload, activitySeen := some false } } }) ∧
      (¬ vouched → s.accord.config.lapseGrace ≠ 0 →
        exec (.leaseRunOut i) s = .next
          (({ s with
              table := s.table.set i
                { s.entry i with
                  use := .unicast
                    { c with
                      state := .lapsing
                      leaseRemaining := none
                      activitySeen := none
                      graceRemaining := some s.accord.config.lapseGrace } } } : State).notify c.owner
            (.leaseLapsing ref s.accord.config.lapseGrace))) ∧
      (¬ vouched → s.accord.config.lapseGrace = 0 →
        exec (.leaseRunOut i) s = .next (withdrawn (freed.notify c.owner (.leaseEnded ref .live))))) ∧
    (c.state = .lapsing → c.graceRemaining = some 0 →
      exec (.graceExpiry i) s = .next (withdrawn (freed.notify c.owner (.leaseEnded ref .lapsing)))) ∧
    (c.state ≠ .live ∨ c.leaseRemaining ≠ some 0 → exec (.leaseRunOut i) s = .next s) ∧
    (c.state ≠ .lapsing ∨ c.graceRemaining ≠ some 0 → exec (.graceExpiry i) s = .next s)

/-- A tick event (R49, R51, R53, R5): the tick count is raised by one, the next interval takes the active record's tick
period, and every timer of the table, the hosts and a pending proposal is lowered by one; a timer that holds 0, whose
expiry has not been taken yet, stays at 0 (notes/assumptions/4). Nothing else changes. -/
def Obligations.TickLowersEveryTimer : Prop :=
  ∀ s : State, s.resetting = none →
    ∃ t : State, exec .tick s = .next t ∧
      t.tick = { count := s.tick.count + 1, period := s.accord.config.tickPeriod } ∧
      (∀ i : Index,
        t.entry i =
          match (s.entry i).use with
          | .unicast c =>
            { s.entry i with
              use := .unicast
                { c with
                  stageTimer := c.stageTimer.map (· - 1)
                  leaseRemaining := c.leaseRemaining.map (· - 1)
                  graceRemaining := c.graceRemaining.map (· - 1)
                  offer := c.offer.map (fun o => { o with remaining := o.remaining - 1 }) } }
          | _ => s.entry i) ∧
      (∀ h : HostId,
        t.host h =
          { s.host h with
            alarm := (s.host h).alarm.map (· - 1)
            attemptTimer := (s.host h).attemptTimer.map (· - 1)
            restTimer := (s.host h).restTimer.map (· - 1)
            dozeTimer := (s.host h).dozeTimer.map (· - 1) }) ∧
      t.accord =
        { s.accord with proposal := s.accord.proposal.map (fun q => { q with window := q.window - 1 }) } ∧
      { t with tick := s.tick, table := s.table, hosts := s.hosts, accord := s.accord } = s

/-! ### The Frame Pool -/

/-- The references of a record (R69, R71): taking one raises the count; dropping one lowers it, and at the last the
record is free, its cells at the tail of the free cell list in chain order and its handle at the tail of the free record
list. Nothing else changes. -/
def Obligations.ReferencesAreCountedAndTheLastFrees : Prop :=
  ∀ (s : State) (r : Handle) (rec : FrameRecord), s.record r = some rec →
    s.takeRef r =
      { s with pool := { s.pool with records := s.pool.records.set r (some { rec with refs := rec.refs + 1 }) } } ∧
    (2 ≤ rec.refs →
      s.dropRef r =
        { s with pool := { s.pool with records := s.pool.records.set r (some { rec with refs := rec.refs - 1 }) } }) ∧
    (rec.refs = 1 →
      s.dropRef r =
        { s with
          pool :=
            { s.pool with
              records := s.pool.records.set r none
              freeCells := s.pool.freeCells ++ rec.chain
              freeRecords := s.pool.freeRecords ++ [r] } })

/-- A frame written into distinct cells that are enough for it reads back byte for byte, and every byte of every other
cell is unchanged (R65, R66). That the store is a list in canonical form, which it keeps, is the model's choice
(notes/assumptions/2). -/
def Obligations.StoredFrameReadsBack : Prop :=
  ∀ (store : List Host.Cell) (chain : List CellId) (frame : List Byte), storeWf store → chain.Nodup →
    frame.length ≤ 128 * chain.length →
    chainBytes (writeChain store chain 0 frame) chain frame.length = frame ∧
    (∀ (c : CellId) (k : Nat), c ∉ chain → k < 128 →
      storeRead (writeChain store chain 0 frame) (cellAddress c k) = storeRead store (cellAddress c k)) ∧
    storeWf (writeChain store chain 0 frame)

/-- POOL_STATUS (R80), LINE_STATUS (R103), QUEUE_STATUS (R114) and READ_CONFIG (R159) from an awake host change nothing and
answer with what those rules list. That LINE_STATUS and a configuration record code line enable as 0 for off and 1 for on,
and that LINE_STATUS gives 0 for default host attached where there is no default host, is the model's reading
(notes/assumptions/13). -/
def Obligations.StatusReadsOfAnAwakeHost : Prop :=
  ∀ (s : State) (h : HostId) (tag : Word16), s.Ready h →
    exec (.poolStatus h (requestBytes 0x20 tag [])) s = .next
      (s.responded h 0x20 tag [] 0x00
        (nat16Bytes s.pool.freeCells.length ++ [byte s.pool.freeRecords.length, 48, 8] ++
          nat16Bytes (s.pool.freeCells.length - 48) ++ [byte (s.pool.freeRecords.length - 8)] ++
          nat16Bytes (s.host h).charge ++ nat16Bytes (s.accord.config.cellQuota.get h))) ∧
    exec (.lineStatus h (requestBytes 0x21 tag [])) s = .next
      (s.responded h 0x21 tag [] 0x00
        ([if s.line.up then 1 else 0, if s.line.lastChange = none then 0 else 1] ++
          word16Bytes (s.line.lastChange.getD 0) ++
          [if s.accord.config.lineEnable then 1 else 0,
            match s.line.reception.map (·.mode) with
            | none => (0 : Byte)
            | some (ReceptionMode.storing _) => 1
            | some ReceptionMode.ignoring => 2,
            if s.arbiter.path = none then 0 else 1] ++
          match s.accord.config.unknown with
          | .discard => ([0, 0xFF, 0] : List Byte)
          | .defaultHost d => [1, byte d.toNat, if (s.host d).reach = .detached then 0 else 1])) ∧
    exec (.queueStatus h (requestBytes 0x32 tag [])) s = .next
      (s.responded h 0x32 tag [] 0x00
        ([if (s.host h).reach = .awake then 1 else 2, byte (s.host h).rxQueue.length,
            byte (s.host h).holdList.length] ++
          nat16Bytes (s.host h).charge ++ nat16Bytes (s.accord.config.cellQuota.get h) ++
          word16Bytes (((s.host h).rxQueue.head?.map (·.stamp)).getD 0) ++
          word16Bytes (((s.host h).holdList.head?.map (·.stamp)).getD 0) ++
          [byte ((s.host h).dozeTimer.getD 0), if (s.host h).delayReached then 1 else 0,
            if ((s.host h).reach = .awake ∧ (s.host h).rxQueue ≠ []) ∨
                ((s.host h).reach = .dozing ∧
                  ((s.host h).params.dozeThreshold ≤ (s.host h).rxQueue.length ∨ (s.host h).delayReached = true)) then 1
              else 0])) ∧
    exec (.readConfig h (requestBytes 0x50 tag [])) s = .next
      (s.responded h 0x50 tag [] 0x00
        (word16Bytes s.accord.generation ++ configRecordBytes s.accord.config ++ word16Bytes s.accord.lastSerial ++
          match s.accord.proposal with
          | none => ([0] : List Byte)
          | some q =>
            [1, byte q.proposer.toNat] ++ word16Bytes q.serial ++ word16Bytes q.base ++ configRecordBytes q.record ++
              [byte q.window] ++
              ([q.votes.h0, q.votes.h1, q.votes.h2, q.votes.h3].map (fun
                | none => 0
                | some Vote.outstanding => 1
                | some Vote.endorsed => 2) ++ [0, 0])))

/-! ### The receive side -/

/-- READ_FRAME (R111) answers with the head's descriptor and the frame's stored bytes and changes nothing; the
descriptor's bytes are those of section 11.7, an absent matched entry 0xFF with generation 0 (R189). ACK_FRAME
(R112, R115, R77): the checks in their order; the head position is removed, the charge lowered by the frame's cells, the
oldest held frame drained to the tail with held flag yes, the doze delay timer started again or stopped, and the
position's reference dropped. -/
def Obligations.ReadAndAcknowledgeTheHead : Prop :=
  ∀ (s : State) (h : HostId) (tag handle : Word16), s.Ready h →
    let c := s.host h
    let read := exec (.readFrame h (requestBytes 0x30 tag [])) s
    let p := word16Bytes handle
    let ack := exec (.ackFrame h (requestBytes 0x31 tag p)) s
    (c.rxQueue = [] → read = .next (s.responded h 0x30 tag [] 0x1A [])) ∧
    (127 < handle.toNat → ack = .next (s.responded h 0x31 tag p 0x08 [])) ∧
    (handle.toNat ≤ 127 → c.rxQueue = [] → ack = .next (s.responded h 0x31 tag p 0x1A [])) ∧
    ∀ (q : RxPosition) (rest : List RxPosition), c.rxQueue = q :: rest →
      (∀ (rec : FrameRecord) (n : Nat) (cls : FrameClass), s.record q.handle = some rec → rec.length = some n →
        rec.cls = some cls →
        read = .next
          (s.responded h 0x30 tag [] 0x00
            (nat16Bytes q.handle.val ++ nat16Bytes n ++
              [match rec.origin with
                | .line => 4
                | .host k => byte k.toNat,
                match cls with
                | .unicastMatch => 0
                | .groupMatch => 1
                | .broadcast => 2
                | .default => 3
                | .localSwitch => 4] ++
              (match rec.matched with
                | none => ([0xFF, 0, 0] : List Byte)
                | some e => byte e.index.val :: word16Bytes e.generation) ++
              word16Bytes rec.stamp ++ word16Bytes q.stamp ++
              [if q.held then 1 else 0, byte c.rxQueue.length, byte c.holdList.length] ++
              chainBytes s.pool.store rec.chain n))) ∧
      (∀ rec : FrameRecord, s.record q.handle = some rec →
        read = .next
          (s.responded h 0x30 tag [] 0x00
            (descriptorBytes rec q c.rxQueue.length c.holdList.length ++
              chainBytes s.pool.store rec.chain (rec.length.getD 0)))) ∧
      (handle.toNat ≤ 127 → handle.toNat ≠ q.handle.val → ack = .next (s.responded h 0x31 tag p 0x1B [])) ∧
      (handle.toNat = q.handle.val →
        let queue := rest ++ (c.holdList.take 1).map (fun x => ⟨x.handle, x.stamp, true⟩)
        ack = .next
          ((({ s with
              hosts := s.hosts.set h
                { c with
                  rxQueue := queue
                  holdList := c.holdList.drop 1
                  charge := c.charge - s.cellCount q.handle
                  dozeTimer := if queue = [] then none else some c.params.dozeDelay
                  delayReached := false } } : State).dropRef q.handle).responded h 0x31 tag p 0x00
            [byte queue.length, byte (c.holdList.length - 1), if c.holdList = [] then 0 else 1]))

/-- The delivery procedure of an attached host (R105 to R109, R77, R118, R127): the governing action of each class, and
the result of a call in each reachability state. A placed frame takes a position, a reference and its charge; a frame
placed in an empty receive queue starts the doze delay timer; each result raises its own counter; a drop for a host
asleep is counted in its wake cause record; a call in ASLEEP with governing action WAKE begins a wake with cause FRAME
whatever the hold path's result, and one with HOLD that finds the hold list full begins one with cause HOLD_FULL when the
host asks for it. The deliveries of a frame to some hosts are calls in their order, with the number that placed it. -/
def Obligations.DeliveryByReachabilityState : Prop :=
  (∀ (s : State) (h : HostId) (d : Delivery), (s.host h).reach ≠ .detached →
    let c := s.host h
    let n := s.cellCount d.handle
    let stamp : Word16 := BitVec.setWidth 16 s.tick.count
    let fits := c.charge + n ≤ s.accord.config.cellQuota.get h
    let gov : SleepAction :=
      if d.cls = .unicastMatch ∨ d.cls = .localSwitch then d.action
      else if d.cls = .default then .hold
      else if c.params.groupAsleep = .hold then .hold else .drop
    let put (x : HostCtx) : State := { s with hosts := s.hosts.set h x }
    let placed (x : HostCtx) : State × Bool := ((put x).takeRef d.handle, true)
    let dropped (x : HostCtx) : State × Bool := (put x, false)
    let held : HostCtx :=
      { c with
        charge := c.charge + n
        holdList := c.holdList ++ [⟨d.handle, stamp⟩]
        counters := { c.counters with held := bump c.counters.held } }
    let missed (f : HostCounters → HostCounters) : HostCtx :=
      { c with
        counters := f c.counters
        wake := if s.asleep h then c.wake.map (fun w => { w with dropped := bump w.dropped }) else c.wake }
    let full := missed (fun k => { k with dropHoldFull := bump k.dropHoldFull })
    let quotaDrop := missed (fun k => { k with dropQuota := bump k.dropQuota })
    let woken (x : HostCtx) (cause : WakeCause) (entry : Option EntryRef) : HostCtx :=
      { x with
        reach := .waking
        alarm := none
        attempt := some 1
        attemptTimer :=
          match x.depth with
          | none => none
          | some .light => some x.params.lightWindow
          | some .deep => some x.params.deepWindow
        wake := x.wake.map (fun w =>
          { w with cause := some cause, entry := entry, startStamp := some stamp, attemptsUsed := 1 })
        counters := { x.counters with wakes := bump x.counters.wakes } }
    let out := s.deliver h d
    (s.Awake h → c.holdList = [] →
      (32 ≤ c.rxQueue.length →
        out = dropped (missed (fun k => { k with dropQueueFull := bump k.dropQueueFull }))) ∧
      (c.rxQueue.length < 32 → ¬ fits → out = dropped quotaDrop) ∧
      (c.rxQueue.length < 32 → fits →
        out = placed
          { c with
            charge := c.charge + n
            rxQueue := c.rxQueue ++ [⟨d.handle, stamp, false⟩]
            dozeTimer := if c.rxQueue = [] then some c.params.dozeDelay else c.dozeTimer
            delayReached := if c.rxQueue = [] then false else c.delayReached
            counters := { c.counters with delivered := bump c.counters.delivered } })) ∧
    ((s.Awake h ∧ c.holdList ≠ []) ∨ ((c.reach = .waking ∨ c.reach = .wakeRest) ∧ gov ≠ .drop) →
      (16 ≤ c.holdList.length → out = dropped full) ∧
      (c.holdList.length < 16 → ¬ fits → out = dropped quotaDrop) ∧
      (c.holdList.length < 16 → fits → out = placed held)) ∧
    ((c.reach = .asleep ∨ c.reach = .waking ∨ c.reach = .wakeRest) → gov = .drop →
      out = dropped (missed (fun k => { k with dropAsleep := bump k.dropAsleep }))) ∧
    (c.reach = .stranded → out = dropped (missed (fun k => { k with dropStranded := bump k.dropStranded }))) ∧
    (c.reach = .asleep → gov = .hold →
      (16 ≤ c.holdList.length →
        out = dropped (if c.params.holdFullWakes then woken full .holdFull none else full)) ∧
      (c.holdList.length < 16 → ¬ fits → out = dropped quotaDrop) ∧
      (c.holdList.length < 16 → fits → out = placed held)) ∧
    (c.reach = .asleep → gov = .wake →
      (16 ≤ c.holdList.length → out = dropped (woken full .frame d.matched)) ∧
      (c.holdList.length < 16 → ¬ fits → out = dropped (woken quotaDrop .frame d.matched)) ∧
      (c.holdList.length < 16 → fits → out = placed (woken held .frame d.matched)))) ∧
  ∀ (s : State) (d : Delivery), s.deliverAll [] d = (s, 0) ∧
    ∀ (hs : List HostId) (h : HostId),
      let x := s.deliverAll hs d
      let y := x.1.deliver h d
      s.deliverAll (hs ++ [h]) d = (y.1, if y.2 then x.2 + 1 else x.2)

/-! ### Reachability and wake -/

/-- DOZE (R124), SLEEP (R125, R137) and SET_HOST_PARAMS (R139) from an awake host: the state DOZING; the checks of SLEEP
and the state ASLEEP with its depth, a cleared wake cause record and the alarm if one is asked for; the check of
SET_HOST_PARAMS and all seven values set, which the response carries. -/
def Obligations.DozeSleepAndParameters : Prop :=
  ∀ (s : State) (h : HostId) (tag : Word16), s.Ready h →
    exec (.doze h (requestBytes 0x38 tag [])) s = .next
      (({ s with hosts := s.hosts.set h { s.host h with reach := .dozing } }).responded h 0x38 tag [] 0x00 []) ∧
    (∀ (depth : Byte) (n : Word16),
      let p := depth :: word16Bytes n
      let out := exec (.sleep h (requestBytes 0x39 tag p)) s
      (1 < depth.toNat → out = .next (s.responded h 0x39 tag p 0x08 [])) ∧
      (depth.toNat ≤ 1 →
        out = .next
          (({ s with
              hosts := s.hosts.set h
                { s.host h with
                  reach := .asleep
                  depth := some (if depth = 0 then .light else .deep)
                  wake := some ⟨none, none, none, 0, false, none, 0⟩
                  alarm := if n = 0 then none else some n.toNat } }).responded h 0x39 tag p 0x00 []))) ∧
    ∀ threshold delay light deep attempts group full : Byte,
      let p := [threshold, delay, light, deep, attempts, group, full]
      let out := exec (.setHostParams h (requestBytes 0x3C tag p)) s
      let bad := threshold = 0 ∨ 32 < threshold.toNat ∨ delay = 0 ∨ light = 0 ∨ deep = 0 ∨ attempts = 0 ∨
        4 < attempts.toNat ∨ 1 < group.toNat ∨ 1 < full.toNat
      (bad → out = .next (s.responded h 0x3C tag p 0x08 [])) ∧
      (¬ bad →
        out = .next
          (({ s with
              hosts := s.hosts.set h
                { s.host h with
                  params :=
                    { dozeThreshold := threshold.toNat
                      dozeDelay := delay.toNat
                      lightWindow := light.toNat
                      deepWindow := deep.toNat
                      wakeAttempts := attempts.toNat
                      groupAsleep := if group = 0 then .hold else .drop
                      holdFullWakes := full == 1 } } }).responded h 0x3C tag p 0x00 p))

/-- RESUME (R132 to R134): in AWAKE it changes nothing, in DOZING it makes the host AWAKE, and from an asleep state it
makes the host AWAKE with its timers stopped, its wake cause record completed by the table of R133, and held frames
moved to the receive queue until the hold list is empty or the queue holds 32; a drain into an empty queue starts the
doze delay timer. The response carries the wake block after the event, whose bytes are those of section 11.7, absent
fields coded as R188 says. -/
def Obligations.ResumeMakesTheHostAwake : Prop :=
  ∀ (s : State) (h : HostId) (tag : Word16), s.Heard h →
    let c := s.host h
    let answer (x : HostCtx) : Host.Outcome State Fault Refusal :=
      .next (({ s with hosts := s.hosts.set h x }).responded h 0x3A tag [] 0x00 (wakeBlock x))
    let out := exec (.resume h (requestBytes 0x3A tag [])) s
    (∀ (x : HostCtx) (w : WakeRecord), x.wake = some w →
      wakeBlock x =
        ([match x.reach with
          | .detached => 0
          | .awake => 1
          | .dozing => 2
          | .asleep => 3
          | .waking => 4
          | .wakeRest => 5
          | .stranded => 6,
          if x.depth = some .deep then 1 else 0] : List Byte) ++
        nat16Bytes (x.alarm.getD 0) ++
        [byte (x.attempt.getD 0),
          match x.attemptTimer, x.restTimer with
          | some n, _ => byte n
          | none, some n => byte n
          | none, none => 0,
          match w.cause with
          | none => 0xFF
          | some .self => 0
          | some .frame => 1
          | some .holdFull => 2
          | some .alarm => 3] ++
        (match w.entry with
          | none => ([0xFF, 0, 0] : List Byte)
          | some e => byte e.index.val :: word16Bytes e.generation) ++
        word16Bytes (w.startStamp.getD 0) ++
        [byte w.attemptsUsed, if w.stranded then 1 else 0,
          match w.heldAtResume with
          | none => 0xFF
          | some n => byte n] ++
        nat32Bytes w.dropped) ∧
    (c.reach = .awake → out = answer c) ∧
    (c.reach = .dozing → out = answer { c with reach := .awake }) ∧
    ∀ w : WakeRecord, c.wake = some w → s.asleep h = true →
      let n := min c.holdList.length (32 - c.rxQueue.length)
      let completed : WakeRecord :=
        match c.reach with
        | .asleep => ⟨some .self, none, some (BitVec.setWidth 16 s.tick.count), 0, false, some c.holdList.length, w.dropped⟩
        | .stranded => { w with stranded := true, heldAtResume := some c.holdList.length }
        | _ => { w with stranded := false, heldAtResume := some c.holdList.length }
      out = answer
        { c with
          reach := .awake
          depth := none
          alarm := none
          attempt := none
          attemptTimer := none
          restTimer := none
          wake := some completed
          rxQueue := c.rxQueue ++ (c.holdList.take n).map (fun x => ⟨x.handle, x.stamp, true⟩)
          holdList := c.holdList.drop n
          dozeTimer := if c.rxQueue = [] ∧ 0 < n then some c.params.dozeDelay else c.dozeTimer
          delayReached := if c.rxQueue = [] ∧ 0 < n then false else c.delayReached }

/-- The timers of a host: expiry of the doze delay timer (R115); of the wake-after alarm, which begins a wake with cause
ALARM (R126, R127); of an attempt, which rests for one tick or, after the last, strands the host and discards its hold
list (R129, R131); of the rest timer, which starts the next attempt (R130). Where no such timer stands at 0 the command
finds no expiry and changes nothing (notes/assumptions/4). -/
def Obligations.HostTimerExpiries : Prop :=
  ∀ (s : State) (h : HostId), s.resetting = none →
    let c := s.host h
    let put (x : HostCtx) : State := { s with hosts := s.hosts.set h x }
    let window : Option Nat :=
      match c.depth with
      | none => none
      | some .light => some c.params.lightWindow
      | some .deep => some c.params.deepWindow
    (c.dozeTimer = some 0 → exec (.dozeDelayExpiry h) s = .next (put { c with dozeTimer := none, delayReached := true })) ∧
    (c.dozeTimer ≠ some 0 → exec (.dozeDelayExpiry h) s = .next s) ∧
    (c.reach = .asleep → c.alarm = some 0 →
      exec (.alarmExpiry h) s = .next
        (put
          { c with
            reach := .waking
            alarm := none
            attempt := some 1
            attemptTimer := window
            wake := c.wake.map (fun w =>
              { w with
                cause := some .alarm
                entry := none
                startStamp := some (BitVec.setWidth 16 s.tick.count)
                attemptsUsed := 1 })
            counters := { c.counters with wakes := bump c.counters.wakes } })) ∧
    (c.reach ≠ .asleep ∨ c.alarm ≠ some 0 → exec (.alarmExpiry h) s = .next s) ∧
    (∀ k : Nat, c.reach = .waking → c.attemptTimer = some 0 → c.attempt = some k →
      (k < c.params.wakeAttempts →
        exec (.attemptExpiry h) s = .next
          (put { c with reach := .wakeRest, attemptTimer := none, restTimer := some 1 })) ∧
      (c.params.wakeAttempts ≤ k →
        exec (.attemptExpiry h) s = .next
          ((put
            { c with
              reach := .stranded
              attempt := none
              attemptTimer := none
              wake := c.wake.map (fun w =>
                { w with stranded := true, dropped := times bump c.holdList.length w.dropped })
              holdList := []
              charge := c.charge - (c.holdList.map (fun p => s.cellCount p.handle)).sum
              counters :=
                { c.counters with
                  dropStranded := times bump c.holdList.length c.counters.dropStranded
                  strandings := bump c.counters.strandings } }).dropRefs (c.holdList.map (·.handle))))) ∧
    (c.reach ≠ .waking ∨ c.attemptTimer ≠ some 0 → exec (.attemptExpiry h) s = .next s) ∧
    (∀ k : Nat, c.reach = .wakeRest → c.restTimer = some 0 → c.attempt = some k →
      exec (.restExpiry h) s = .next
        (put
          { c with
            reach := .waking
            restTimer := none
            attempt := some (k + 1)
            attemptTimer := window
            wake := c.wake.map (fun w => { w with attemptsUsed := k + 1 }) })) ∧
    (c.reach ≠ .wakeRest ∨ c.restTimer ≠ some 0 → exec (.restExpiry h) s = .next s)

/-! ### Line receive and classification -/

/-- A line-up event that finds the line DOWN, and a line-down event that finds it UP (R82, R83, R90, R150): the line state
and the last line change; the reception in progress ends LINE_LOST, or NO_CELLS if its record is exhausted, and the
transmission in progress ends LINE_LOST, their references dropped; and every attached host is told. A line-up of a line
that is UP, and a line-down of one that is DOWN, are no changes of the indication (notes/assumptions/8). Where both
references are the last of their records, the reception's record is freed first (notes/assumptions/10). -/
def Obligations.LineEvents : Prop :=
  ∀ s : State, s.resetting = none →
    let stamp : Word16 := BitVec.setWidth 16 s.tick.count
    (s.line.up = true → exec .lineUpEvent s = .next s) ∧
    (s.line.up = false → exec .lineDownEvent s = .next s) ∧
    (s.line.up = false →
      ∃ t : State, exec .lineUpEvent s = .next t ∧
        t.line = { s.line with up := true, link := true, lastChange := some stamp } ∧
        (∀ k : HostId, t.host k = (s.notify k .lineUp).host k) ∧ { t with line := s.line, hosts := s.hosts } = s) ∧
    (s.line.up = true →
      let exhausted (r : Handle) : Prop := ∃ rec, s.record r = some rec ∧ rec.exhausted = some true
      let received : List Handle :=
        match s.line.reception.map (·.mode) with
        | some (ReceptionMode.storing r) => [r]
        | _ => []
      let sent : List Handle := (s.arbiter.path.map (·.handle)).toList
      ∃ t : State, exec .lineDownEvent s = .next t ∧
        t.line.up = false ∧ t.line.link = false ∧ t.line.lastChange = some stamp ∧ t.line.reception = none ∧
        (received = [] → t.line.counters = s.line.counters) ∧
        (∀ r ∈ received,
          (exhausted r → t.line.counters = { s.line.counters with noCells := bump s.line.counters.noCells }) ∧
          (¬ exhausted r → t.line.counters = { s.line.counters with lineLost := bump s.line.counters.lineLost })) ∧
        t.pool = (s.dropRefs (received ++ sent)).pool ∧
        t.arbiter.path = none ∧ t.arbiter.lastGranted = s.arbiter.lastGranted ∧
        (∀ k : HostId, t.tx k =
          { s.tx k with
            ring := (s.tx k).ring ++
              match s.arbiter.path with
              | none => []
              | some f => if f.sender = k ∧ f.discard = false then [⟨f.sequence, .lineLost, f.delivered⟩] else [] }) ∧
        (∀ k : HostId, t.host k = (s.notify k .lineDown).host k) ∧
        { t with line := s.line, hosts := s.hosts, pool := s.pool, arbiter := s.arbiter } = s)

/-- A frame start (R86, R73), and the bytes of a reception (R87, R72, R74): a byte is written when the fourth byte after
it arrives, a cell being taken from the head of the free cell list for the first byte that falls in it; a reception
that finds no cell is exhausted and gives back its chain; nothing is written past 1,536 stored bytes, after
exhaustion, or in IGNORING. A receive error is marked in the reception. These are the model's reading:
RECEPTION_CELL_NEED is the arrival of a byte that needs a new cell, and nothing otherwise (notes/assumptions/9); a
frame start during a reception, and a byte or an error with no reception, change nothing (notes/assumptions/8). -/
def Obligations.FrameStartAndReceivedBytes : Prop :=
  ∀ (s : State) (b : Byte), s.resetting = none →
    let begun (m : ReceptionMode) : Option Reception := some ⟨m, 0, false, [], 0xFFFFFFFF⟩
    (s.line.up = false ∨ s.line.reception ≠ none → exec .frameStart s = .next s) ∧
    (s.line.up = true → s.line.reception = none → s.accord.config.lineEnable = false →
      exec .frameStart s = .next
        { s with
          line := { s.line with
            reception := begun .ignoring
            counters := { s.line.counters with lineDisabled := bump s.line.counters.lineDisabled } } }) ∧
    (s.line.up = true → s.line.reception = none → s.accord.config.lineEnable = true → s.pool.freeRecords = [] →
      exec .frameStart s = .next
        { s with
          line := { s.line with
            reception := begun .ignoring
            counters := { s.line.counters with noHandle := bump s.line.counters.noHandle } } }) ∧
    (∀ (r : Handle) (rest : List Handle), s.line.up = true → s.line.reception = none →
      s.accord.config.lineEnable = true → s.pool.freeRecords = r :: rest →
      exec .frameStart s = .next
        { s with
          pool := { s.pool with
            records := s.pool.records.set r
              (some ⟨.line, BitVec.setWidth 16 s.tick.count, [], some false, none, none, none, 1⟩)
            freeRecords := rest }
          line := { s.line with reception := begun (.storing r) } }) ∧
    (s.line.reception = none →
      exec (.wholeByteReceived b) s = .next s ∧ exec (.receptionCellNeed b) s = .next s ∧
        exec .receiveErrorMarked s = .next s) ∧
    ∀ x : Reception, s.line.reception = some x →
      let received (y : Reception) (p : Pool) : Host.Outcome State Fault Refusal :=
        .next { s with line := { s.line with reception := some y }, pool := p }
      exec .receiveErrorMarked s = received { x with errorSeen := true } s.pool ∧
      (x.recent.length < 4 →
        exec (.wholeByteReceived b) s = received { x with received := x.received + 1, recent := x.recent ++ [b] } s.pool ∧
          exec (.receptionCellNeed b) s = .next s) ∧
      ∀ (e : Byte) (rest : List Byte), x.recent = e :: rest → rest.length = 3 →
        let y : Reception :=
          { x with received := x.received + 1, recent := rest ++ [b], check := crcByte x.check e }
        let k := x.received - 4
        (x.mode = .ignoring →
          exec (.wholeByteReceived b) s = received y s.pool ∧ exec (.receptionCellNeed b) s = .next s) ∧
        ∀ (r : Handle) (rec : FrameRecord), x.mode = .storing r → s.record r = some rec →
          (rec.exhausted ≠ some false ∨ 1536 ≤ k →
            exec (.wholeByteReceived b) s = received y s.pool ∧ exec (.receptionCellNeed b) s = .next s) ∧
          (rec.exhausted = some false → k < 1536 →
            (k / 128 < rec.chain.length →
              exec (.wholeByteReceived b) s =
                received y { s.pool with store := writeChainByte s.pool.store rec.chain k e } ∧
              exec (.receptionCellNeed b) s = .next s) ∧
            (rec.chain.length ≤ k / 128 →
              (∀ (c : CellId) (free : List CellId), s.pool.freeCells = c :: free →
                let out := received y
                  { s.pool with
                    records := s.pool.records.set r (some { rec with chain := rec.chain ++ [c] })
                    freeCells := free
                    store := writeChainByte s.pool.store (rec.chain ++ [c]) k e }
                exec (.wholeByteReceived b) s = out ∧ exec (.receptionCellNeed b) s = out) ∧
              (s.pool.freeCells = [] →
                let out := received y
                  { s.pool with
                    records := s.pool.records.set r (some { rec with exhausted := some true, chain := [] })
                    freeCells := rec.chain }
                exec (.wholeByteReceived b) s = out ∧ exec (.receptionCellNeed b) s = out)))

/-- The receiver splits off the frame check (R72, R87, R88): after the bytes of a frame and four more, the reception has
counted them all, keeps the last four, and has taken the others into the running check; the outcome is GOOD exactly when
the whole length lies from 64 to 1,518, no error was seen, and the four bytes are the frame check of the others. The frame
check of four bytes and more is that of R88: with the bits of the bytes taken from bit 0 to bit 7 as the coefficients of
a polynomial over the two-element field, the highest term first and the first 32 complemented, the polynomial times x^32
leaves, divided by the generator, the remainder whose complemented coefficients, from that of x^31, are the bits of the
four check bytes. -/
def Obligations.ReceptionJudgesTheFrameCheck : Prop :=
  ∀ (m : ReceptionMode) (frame tail : List Byte), tail.length = 4 →
    let x := (frame ++ tail).foldl (fun (x : Reception) b => (x.push b).1) ⟨m, 0, false, [], 0xFFFFFFFF⟩
    x = ⟨m, frame.length + 4, false, tail, frame.foldl crcByte 0xFFFFFFFF⟩ ∧
    (x.outcome = .good ↔ 60 ≤ frame.length ∧ frame.length ≤ 1514 ∧ tail = frameCheck frame) ∧
    (x.outcome = .badCheck ↔ 60 ≤ frame.length ∧ frame.length ≤ 1514 ∧ tail ≠ frameCheck frame) ∧
    (4 ≤ frame.length →
      let z : Polynomial (ZMod 2) := Polynomial.X
      let generator : Polynomial (ZMod 2) :=
        z ^ 32 + z ^ 26 + z ^ 23 + z ^ 22 + z ^ 16 + z ^ 12 + z ^ 11 + z ^ 10 + z ^ 8 + z ^ 7 + z ^ 5 + z ^ 4 + z ^ 2 + z + 1
      let bits (l : List Byte) : List Bool := l.flatMap (fun b => (List.range 8).map (fun k => b.getLsbD k))
      let poly (l : List Bool) : Polynomial (ZMod 2) := l.foldl (fun p b => p * z + (if b then 1 else 0)) 0
      (frameCheck frame).length = 4 ∧
      ∃ quotient : Polynomial (ZMod 2),
        poly (((bits frame).take 32).map (!·) ++ (bits frame).drop 32) * z ^ 32 =
          quotient * generator + poly ((bits (frameCheck frame)).map (!·)))

/-- A frame received whole is stored whole (R65, R66, R72, R86, R87): from a frame start with the line UP and enabled, a
record free and cells enough for the frame, through its bytes and the four bytes of its check, the record taken holds a
chain of the cells the frame needs, taken from the head of the free cell list in order, and its stored bytes are the
frame. -/
def Obligations.ReceivedFrameIsStoredWhole : Prop :=
  ∀ (s : State) (r : Handle) (rest : List Handle) (frame tail : List Byte), s.resetting = none → s.line.up = true →
    s.line.reception = none → s.accord.config.lineEnable = true → s.pool.freeRecords = r :: rest →
    s.pool.freeCells.Nodup → storeWf s.pool.store → 60 ≤ frame.length → frame.length ≤ 1514 → tail.length = 4 →
    (frame.length + 127) / 128 ≤ s.pool.freeCells.length →
    let n := (frame.length + 127) / 128
    let run (o : Host.Outcome State Fault Refusal) (i : Instr) : Host.Outcome State Fault Refusal :=
      match o with
      | .next t => exec i t
      | stop => stop
    ∃ t : State,
      ((frame ++ tail).map Instr.wholeByteReceived).foldl run (exec .frameStart s) = .next t ∧
      t.record r = some
        ⟨.line, BitVec.setWidth 16 s.tick.count, s.pool.freeCells.take n, some false, none, none, none, 1⟩ ∧
      t.pool.freeCells = s.pool.freeCells.drop n ∧ t.pool.freeRecords = rest ∧
      chainBytes t.pool.store (s.pool.freeCells.take n) frame.length = frame ∧
      t.line.reception = some ⟨.storing r, frame.length + 4, false, tail, frame.foldl crcByte 0xFFFFFFFF⟩

/-- The wire frame end (R88, R89): the first case that applies gives the outcome, each outcome raises its counter, or
NO_CELLS in its place when the record is exhausted, and drops the receiving reference; a GOOD frame's record takes its
stored length and is classified by its source and destination before the reference is dropped. A wire frame end with no
reception changes nothing, which is the model's reading (notes/assumptions/8). -/
def Obligations.WireFrameEndSettlesTheFrame : Prop :=
  ∀ s : State, s.resetting = none →
    (s.line.reception = none → exec .wireFrameEnd s = .next s) ∧
    ∀ x : Reception, s.line.reception = some x →
      let count (d : DeviceCounters) : State := { s with line := { s.line with reception := none, counters := d } }
      let d := s.line.counters
      (x.mode = .ignoring → exec .wireFrameEnd s = .next (count d)) ∧
      ∀ (r : Handle) (rec : FrameRecord), x.mode = .storing r → s.record r = some rec →
        (rec.exhausted = some true →
          exec .wireFrameEnd s = .next ((count { d with noCells := bump d.noCells }).dropRef r)) ∧
        (rec.exhausted ≠ some true →
          (x.received < 64 → exec .wireFrameEnd s = .next ((count { d with runt := bump d.runt }).dropRef r)) ∧
          (1518 < x.received → exec .wireFrameEnd s = .next ((count { d with giant := bump d.giant }).dropRef r)) ∧
          (64 ≤ x.received → x.received ≤ 1518 →
            (x.errorSeen = true ∨ crcBytes x.check ≠ x.recent →
              exec .wireFrameEnd s = .next ((count { d with badCheck := bump d.badCheck }).dropRef r)) ∧
            (x.errorSeen = false → crcBytes x.check = x.recent →
              let n := x.received - 4
              let bytes := chainBytes s.pool.store rec.chain n
              let t : State :=
                { count { d with lineGood := bump d.lineGood } with
                  pool := { s.pool with
                    records := s.pool.records.set r (some { rec with length := some n, exhausted := none }) } }
              exec .wireFrameEnd s = .next ((t.classify r (addressAt bytes 6) (addressAt bytes 0)).dropRef r))))

/-- The source observation (R13, R26): a staged claim on the source goes to CONFLICTED with the stage hold started again
and STAGE_CONFLICT to its owner; a CONFLICTED one is unchanged; a LIVE or LAPSING one counts a collision, up to 255, and
tells its owner the count; with no claim on the source nothing changes. -/
def Obligations.SourceObservation : Prop :=
  ∀ (s : State) (a : Address), s.TableLaw →
    ((∀ (i : Index) (c : Claim), (s.entry i).use = .unicast c → c.address ≠ a) → s.observeSource a = s) ∧
    ∀ (i : Index) (c : Claim), (s.entry i).use = .unicast c → c.address = a →
      let ref : EntryRef := ⟨i, (s.entry i).generation⟩
      (c.state = .probing ∨ c.state = .probed →
        s.observeSource a =
          ({ s with
              table := s.table.set i
                { s.entry i with
                  use := .unicast { c with state := .conflicted, stageTimer := some s.accord.config.stageHold } } } :
              State).notify c.owner (.stageConflict ref c.state)) ∧
      (c.state = .conflicted → s.observeSource a = s) ∧
      (∀ n : Nat, c.state = .live ∨ c.state = .lapsing → c.collisions = some n →
        let k := if n < 255 then n + 1 else n
        s.observeSource a =
          ({ s with
              table := s.table.set i { s.entry i with use := .unicast { c with collisions := some k } } } :
              State).notify c.owner (.addressCollision ref k))

/-- The classification of a good line frame (R93 to R99), by the table and the configuration as the source observation
leaves them: BROADCAST to every attached host; GROUP_MATCH to a group entry's members; UNICAST_MATCH to the owner of a
LIVE or LAPSING claim, with its sleep action; DEFAULT to an attached default host; otherwise GROUP_UNMATCHED or
UNKNOWN_DISCARDED is counted. The record's class and matched entry are set, the matched entry's hit count raised, and the
frame delivered in ascending order of host number; a frame placed by no target is counted NO_TAKER. -/
def Obligations.ClassificationOfALineFrame : Prop :=
  ∀ (s : State) (r : Handle) (source dest : Address), (s.observeSource source).TableLaw →
    let t := s.observeSource source
    let settle (v : State × Nat) : State :=
      if v.2 = 0 then
        { v.1 with line := { v.1.line with
            counters := { v.1.line.counters with noTaker := bump v.1.line.counters.noTaker } } }
      else v.1
    let attached := [HostId.h0, .h1, .h2, .h3].filter (fun k => (t.host k).reach ≠ .detached)
    let out := s.classify r source dest
    (dest = 0xFFFFFFFFFFFF →
      out = settle
        ((if attached = [] then t else t.setClass r .broadcast none).deliverAll attached ⟨r, .broadcast, none, .hold⟩)) ∧
    (dest ≠ 0xFFFFFFFFFFFF → isGroupAddress dest = true →
      (∀ (i : Index) (g : Group), (t.entry i).use = .group g → g.address = dest →
        let ref : EntryRef := ⟨i, (t.entry i).generation⟩
        let u := t.setClass r .groupMatch (some ref)
        out = settle
          (({ u with
              table := t.table.set i { t.entry i with use := .group { g with hits := bump g.hits } } } : State).deliverAll
            ([HostId.h0, .h1, .h2, .h3].filter (fun k => g.members.get k)) ⟨r, .groupMatch, some ref, .hold⟩)) ∧
      ((∀ j : Index, (t.entry j).address? ≠ some dest) →
        out = { t with line := { t.line with
          counters := { t.line.counters with groupUnmatched := bump t.line.counters.groupUnmatched } } })) ∧
    (isGroupAddress dest = false →
      (∀ (i : Index) (c : Claim), (t.entry i).use = .unicast c → c.address = dest → c.state.staged = false →
        let ref : EntryRef := ⟨i, (t.entry i).generation⟩
        let u := t.setClass r .unicastMatch (some ref)
        out = settle
          (({ u with
              table := t.table.set i { t.entry i with use := .unicast { c with hits := bump c.hits } } } : State).deliverAll
            [c.owner] ⟨r, .unicastMatch, some ref, c.action⟩)) ∧
      ((∀ (i : Index) (c : Claim), (t.entry i).use = .unicast c → c.address = dest → c.state.staged = true) →
        (∀ k : HostId, t.accord.config.unknown = .defaultHost k → (t.host k).reach ≠ .detached →
          out = settle ((t.setClass r .default none).deliverAll [k] ⟨r, .default, none, .hold⟩)) ∧
        (t.accord.config.unknown = .discard ∨
            (∃ k : HostId, t.accord.config.unknown = .defaultHost k ∧ (t.host k).reach = .detached) →
          out = { t with line := { t.line with
            counters := { t.line.counters with unknownDiscarded := bump t.line.counters.unknownDiscarded } } })))

/-! ### Transmit -/

/-- SUBMIT (R143, R144, R75, R55, R68) from an awake host: the checks in their order, each raising TX_REFUSED; an accepted
frame takes the record at the head of the free record list and the cells it needs from the head of the free cell list,
its bytes are stored, it takes a place at the tail of the transmit queue with the next sequence number, and a LIVE claim
with an ACTIVITY lease has activity seen. -/
def Obligations.SubmitChecksAndStores : Prop :=
  ∀ (s : State) (h : HostId) (tag : Word16) (p : List Byte), s.Ready h → s.TableLaw → p.length ≤ 1530 →
    let out := exec (.submit h (requestBytes 0x40 tag p)) s
    let refuses (status : Byte) : Prop :=
      out = .next
        (({ s with
            hosts := s.hosts.set h
              { s.host h with
                counters := { (s.host h).counters with txRefused := bump (s.host h).counters.txRefused } } }).responded
          h 0x40 tag p status [])
    let holds (a : Address) (i : Index) (c : Claim) : Prop :=
      (s.entry i).use = .unicast c ∧ c.address = a ∧ c.owner = h ∧ c.state.staged = false
    let n := (p.length + 127) / 128
    (p.length < 60 ∨ 1514 < p.length → refuses 0x08) ∧
    (60 ≤ p.length → p.length ≤ 1514 →
      ((¬ ∃ i c, holds (addressAt p 6) i c) → refuses 0x15) ∧
      ∀ (i : Index) (c : Claim), holds (addressAt p 6) i c →
        ((∃ j d, holds (addressAt p 0) j d) → refuses 0x16) ∧
        ((¬ ∃ j d, holds (addressAt p 0) j d) →
          (8 ≤ (s.tx h).queue.length → refuses 0x17) ∧
          ((s.tx h).queue.length < 8 → s.pool.freeRecords.length ≤ 8 → refuses 0x18) ∧
          ((s.tx h).queue.length < 8 → 8 < s.pool.freeRecords.length → s.pool.freeCells.length < n + 48 →
            refuses 0x19) ∧
          ∀ (r : Handle) (rest : List Handle) (seq : Word16), (s.tx h).queue.length < 8 →
            s.pool.freeRecords = r :: rest → 8 ≤ rest.length → n + 48 ≤ s.pool.freeCells.length →
            (s.tx h).nextSequence = some seq →
            out = .next
              (({ s with
                  table :=
                    if c.state = ClaimState.live ∧ c.mode = LeaseMode.activity then
                      s.table.set i { s.entry i with use := .unicast { c with activitySeen := some true } }
                    else s.table
                  pool :=
                    { store := writeChain s.pool.store (s.pool.freeCells.take n) 0 p
                      records := s.pool.records.set r
                        (some ⟨.host h, BitVec.setWidth 16 s.tick.count, s.pool.freeCells.take n, none, some p.length,
                          none, none, 1⟩)
                      freeCells := s.pool.freeCells.drop n
                      freeRecords := rest }
                  hosts := s.hosts.set h
                    { s.host h with
                      counters :=
                        { (s.host h).counters with submitted := bump (s.host h).counters.submitted } }
                  arbiter :=
                    { s.arbiter with
                      hosts := s.arbiter.hosts.set h
                        { s.tx h with
                          queue := (s.tx h).queue ++ ([⟨r, seq⟩] : List TxPosition)
                          nextSequence := some (seq + 1) } } }).responded h 0x40 tag p 0x00
                (word16Bytes seq ++ [byte ((s.tx h).queue.length + 1)]))))

/-- A grant (R145 to R148): with the path BUSY or no host eligible there is none, and its command changes nothing, which
is the model's reading (notes/assumptions/15); otherwise the first eligible host after the last granted one, in the
circular order, gives up its head position. By the table at the grant its frame is delivered to the targets of its
destination, the matched entry's hit count raised; a frame for a claim of a host has no line part and ends
SELF_DESTINED or LOCAL; any other ends LINE_DOWN or LINE_DISABLED, or goes to the transmitter. -/
def Obligations.GrantSwitchesTheHeadFrame : Prop :=
  ∀ s : State, s.resetting = none →
    let eligible (k : HostId) : Prop := (s.tx k).queue ≠ [] ∧ (s.tx k).ring.length < 8
    let last := s.arbiter.lastGranted
    (s.arbiter.path ≠ none ∨ (∀ k : HostId, ¬ eligible k) → exec .grant s = .next s) ∧
    ∀ (before after : List HostId) (h : HostId) (q : TxPosition) (rest : List TxPosition) (rec : FrameRecord),
      s.arbiter.path = none → [last.succ, last.succ.succ, last.succ.succ.succ, last] = before ++ h :: after →
      (∀ k ∈ before, ¬ eligible k) → eligible h → (s.tx h).queue = q :: rest → s.record q.handle = some rec →
      s.TableLaw →
      let t : State :=
        { s with
          arbiter :=
            { s.arbiter with hosts := s.arbiter.hosts.set h { s.tx h with queue := rest }, lastGranted := h } }
      let dest := addressAt (chainBytes s.pool.store rec.chain (rec.length.getD 0)) 0
      let ends (v : State × Nat) (o : TxOutcome) : Host.Outcome State Fault Refusal :=
        let u := ({ v.1 with
          arbiter :=
            { v.1.arbiter with
              hosts := v.1.arbiter.hosts.set h
                { v.1.tx h with ring := (v.1.tx h).ring ++ [⟨q.sequence, o, v.2⟩] } } } : State).dropRef q.handle
        .next { u with arbiter := { u.arbiter with path := none } }
      let toLine (v : State × Nat) : Host.Outcome State Fault Refusal :=
        if s.line.up = false then ends v .lineDown
        else if s.accord.config.lineEnable = false then ends v .lineDisabled
        else .next { v.1 with arbiter := { v.1.arbiter with path := some ⟨q.handle, h, q.sequence, v.2, false⟩ } }
      let others (f : HostId → Bool) : List HostId := [HostId.h0, .h1, .h2, .h3].filter (fun k => f k && k ≠ h)
      let out := exec .grant s
      (dest = 0xFFFFFFFFFFFF →
        let targets := others s.attached
        out = toLine
          ((if targets = [] then t else t.setClass q.handle .broadcast none).deliverAll targets
            ⟨q.handle, .broadcast, none, .hold⟩)) ∧
      (dest ≠ 0xFFFFFFFFFFFF → isGroupAddress dest = true →
        (∀ (i : Index) (g : Group), (s.entry i).use = .group g → g.address = dest →
          let ref : EntryRef := ⟨i, (s.entry i).generation⟩
          let targets := others g.members.get
          let u := if targets = [] then t else t.setClass q.handle .groupMatch (some ref)
          out = toLine
            (({ u with
                table := s.table.set i { s.entry i with use := .group { g with hits := bump g.hits } } } :
                State).deliverAll targets ⟨q.handle, .groupMatch, some ref, .hold⟩)) ∧
        ((∀ j : Index, (s.entry j).address? ≠ some dest) → out = toLine (t, 0))) ∧
      (isGroupAddress dest = false →
        (∀ (i : Index) (c : Claim), (s.entry i).use = .unicast c → c.address = dest → c.state.staged = false →
          let ref : EntryRef := ⟨i, (s.entry i).generation⟩
          (c.owner = h → out = ends (t, 0) .selfDestined) ∧
          (c.owner ≠ h →
            let u := t.setClass q.handle .localSwitch (some ref)
            out = ends
              (({ u with
                  table := s.table.set i { s.entry i with use := .unicast { c with hits := bump c.hits } } } :
                  State).deliverAll [c.owner] ⟨q.handle, .localSwitch, some ref, c.action⟩) .localSwitch)) ∧
        ((∀ (i : Index) (c : Claim), (s.entry i).use = .unicast c → c.address = dest → c.state.staged = true) →
          out = toLine (t, 0)))

/-- Line transmission and completions (R149, R151, R153): while SENDING the transmitter presents the stored bytes of the
frame and then their frame check; the send completion raises TX_SENT, gives the sender its completion unless the frame
is marked for discard, drops the path's reference and leaves the path IDLE; READ_COMPLETIONS removes and returns the
whole ring. These are the model's reading: the bytes on the wire are given without the preamble and the start-of-frame
delimiter (notes/assumptions/12), and a send completion with the path IDLE changes nothing (notes/assumptions/15). -/
def Obligations.SendCompletionAndReadCompletions : Prop :=
  (∀ s : State, s.resetting = none →
    (s.arbiter.path = none → exec .sendCompletion s = .next s ∧ s.wireBytes = []) ∧
    ∀ f : OnPath, s.arbiter.path = some f →
      (∀ rec : FrameRecord, s.record f.handle = some rec →
        let bytes := chainBytes s.pool.store rec.chain (rec.length.getD 0)
        s.wireBytes = bytes ++ frameCheck bytes) ∧
      exec .sendCompletion s = .next
        { s with
          line := { s.line with counters := { s.line.counters with txSent := bump s.line.counters.txSent } }
          pool := (s.dropRef f.handle).pool
          arbiter :=
            { s.arbiter with
              path := none
              hosts :=
                if f.discard then s.arbiter.hosts
                else s.arbiter.hosts.set f.sender
                  { s.tx f.sender with ring := (s.tx f.sender).ring ++ [⟨f.sequence, .sent, f.delivered⟩] } } }) ∧
  ∀ (s : State) (h : HostId) (tag seq : Word16), s.Ready h → (s.tx h).nextSequence = some seq →
    exec (.readCompletions h (requestBytes 0x41 tag [])) s = .next
      (({ s with
          arbiter := { s.arbiter with hosts := s.arbiter.hosts.set h { s.tx h with ring := [] } } }).responded h 0x41 tag
        [] 0x00
        ([byte (s.tx h).queue.length,
            match s.arbiter.path with
            | none => (0 : Byte)
            | some f => if f.sender = h ∧ f.discard = false then 1 else 0] ++
          word16Bytes seq ++ [byte (s.tx h).ring.length] ++
          (s.tx h).ring.flatMap (fun (x : Completion) => word16Bytes x.sequence ++ [byte x.outcome.code, byte x.delivered])))

/-! ### The configuration accord -/

/-- PROPOSE (R161, R162) from an awake host: the checks in their order, the record's twenty bytes judged field by field;
an accepted proposal takes the next serial, is applied at once where no other host is attached, and is otherwise
pending with every other attached host a voter who is told ACCORD_REQUEST. That the line enable byte is 0 for off and
1 for on, and any other value of it out of range, is the model's reading (notes/assumptions/13). -/
def Obligations.ProposeFormsOrAppliesAProposal : Prop :=
  ∀ (s : State) (h : HostId) (tag base : Word16) (b : List Byte), s.Ready h → b.length = 20 →
    let p := word16Bytes base ++ b
    let out := exec (.propose h (requestBytes 0x51 tag p)) s
    let field (k : Nat) : Nat := (byteAt b k).toNat
    let quota (k : Nat) : Nat := (word16At b k).toNat
    let bad := 3 < field 0 ∨ field 2 = 0 ∨ field 4 = 0 ∨ 1 < field 5 ∨ (field 5 = 0 ∧ field 6 ≠ 255) ∨
      (field 5 = 1 ∧ 3 < field 6) ∨ 1 < field 7 ∨ (∃ k, 8 ≤ k ∧ k ≤ 11 ∧ (field k = 0 ∨ 64 < field k)) ∨
      ∃ k ∈ [12, 14, 16, 18], quota k < 12 ∨ 384 < quota k
    let serial := s.accord.lastSerial + 1
    let generation := s.accord.generation
    (s.accord.proposal ≠ none → out = .next (s.responded h 0x51 tag p 0x1C [])) ∧
    (s.accord.proposal = none → base ≠ generation →
      out = .next (s.responded h 0x51 tag p 0x1D (word16Bytes generation))) ∧
    (s.accord.proposal = none → base = generation → bad → out = .next (s.responded h 0x51 tag p 0x08 [])) ∧
    (¬ bad → ∃ record : ConfigRecord, record.Lawful ∧ b = configRecordBytes record) ∧
    ∀ record : ConfigRecord, s.accord.proposal = none → base = generation → record.Lawful →
      b = configRecordBytes record →
      let voters := [HostId.h0, .h1, .h2, .h3].filter (fun k => k ≠ h && s.attached k)
      let vote (k : HostId) : Option Vote := if k ∈ voters then some .outstanding else none
      let q : Proposal :=
        ⟨h, serial, generation, record, ⟨vote .h0, vote .h1, vote .h2, vote .h3⟩, s.accord.config.accordWindow⟩
      let t : State := { s with accord := { s.accord with lastSerial := serial, proposal := some q } }
      (voters = [] →
        out = .next
          ((t.applyProposal q).responded h 0x51 tag p 0x00
            (word16Bytes serial ++ [1] ++ word16Bytes (generation + 1)))) ∧
      (voters ≠ [] →
        out = .next
          ((t.notifyAll voters (.accordRequest h serial)).responded h 0x51 tag p 0x00 (word16Bytes serial ++ [0])))

/-- ENDORSE (R163), DECLINE (R164), WITHDRAW (R165) and the expiry of the accord window (R166): the checks in their order;
a vote is recorded, and the proposal applied when it was the last outstanding; a decline, a withdrawal and the expiry
each end the proposal, leaving none pending, and its proposer and voters are told the outcome (R169). Where no window
stands at 0 the expiry's command changes nothing (notes/assumptions/4). -/
def Obligations.VotesAndEndsOfAProposal : Prop :=
  ∀ (s : State) (h : HostId) (tag serial : Word16),
    let p := word16Bytes serial
    let endorse := exec (.endorse h (requestBytes 0x52 tag p)) s
    let decline := exec (.decline h (requestBytes 0x53 tag p)) s
    let withdraw := exec (.withdraw h (requestBytes 0x54 tag p)) s
    let ended (q : Proposal) (o : AccordOutcome) (declining : Option HostId) : State :=
      ({ s with accord := { s.accord with proposal := none } } : State).notifyAll
        ([HostId.h0, .h1, .h2, .h3].filter (fun k => k = q.proposer || (q.votes.get k).isSome))
        (.accordOutcome o q.serial declining)
    (s.Ready h →
      ((∀ q : Proposal, s.accord.proposal = some q → q.serial ≠ serial) →
        endorse = .next (s.responded h 0x52 tag p 0x1E []) ∧ decline = .next (s.responded h 0x53 tag p 0x1E []) ∧
          withdraw = .next (s.responded h 0x54 tag p 0x1E [])) ∧
      ∀ q : Proposal, s.accord.proposal = some q → q.serial = serial →
        (q.votes.get h = none →
          endorse = .next (s.responded h 0x52 tag p 0x1F []) ∧ decline = .next (s.responded h 0x53 tag p 0x1F [])) ∧
        (q.votes.get h = some .endorsed →
          endorse = .next (s.responded h 0x52 tag p 0x20 []) ∧ decline = .next (s.responded h 0x53 tag p 0x20 [])) ∧
        (q.votes.get h = some .outstanding →
          let r : Proposal := { q with votes := q.votes.set h (some .endorsed) }
          let t : State := { s with accord := { s.accord with proposal := some r } }
          ((∃ k : HostId, k ≠ h ∧ q.votes.get k = some .outstanding) →
            endorse = .next (t.responded h 0x52 tag p 0x00 [0])) ∧
          ((∀ k : HostId, k ≠ h → q.votes.get k ≠ some .outstanding) →
            endorse = .next ((t.applyProposal r).responded h 0x52 tag p 0x00 [1])) ∧
          decline = .next ((ended q .declined (some h)).responded h 0x53 tag p 0x00 [])) ∧
        (q.proposer ≠ h → withdraw = .next (s.responded h 0x54 tag p 0x1E [])) ∧
        (q.proposer = h → withdraw = .next ((ended q .withdrawn none).responded h 0x54 tag p 0x00 []))) ∧
    (s.resetting = none →
      ((∀ q : Proposal, s.accord.proposal = some q → q.window ≠ 0) → exec .accordWindowExpiry s = .next s) ∧
      ∀ q : Proposal, s.accord.proposal = some q → q.window = 0 →
        exec .accordWindowExpiry s = .next (ended q .lapsed none))

/-- The application of a proposal (R168, R169, R91): the active record is the proposed one, the generation is raised by
one, no proposal is pending; the proposer and the voters that are attached are told APPLIED, and then every attached host
CONFIG_APPLIED. Where the record disables a line that was enabled, a reception in STORING is counted LINE_DISABLED, or
NO_CELLS if exhausted, becomes IGNORING and drops its reference. Nothing else changes. -/
def Obligations.ApplicationOfAProposal : Prop :=
  ∀ (s : State) (q : Proposal),
    let generation := s.accord.generation + 1
    let told (k : HostId) : State :=
      if k = q.proposer ∨ q.votes.get k ≠ none then s.notify k (.accordOutcome .applied q.serial none) else s
    ∃ t : State, s.applyProposal q = t ∧
      t.accord = { config := q.record, generation := generation, lastSerial := s.accord.lastSerial, proposal := none } ∧
      (∀ k : HostId, t.host k = ((told k).notify k (.configApplied generation)).host k) ∧
      { t with accord := s.accord, hosts := s.hosts, line := s.line, pool := s.pool } = s ∧
      (s.accord.config.lineEnable = false ∨ q.record.lineEnable = true → t.line = s.line ∧ t.pool = s.pool) ∧
      (s.accord.config.lineEnable = true → q.record.lineEnable = false →
        (s.line.reception = none → t.line = s.line ∧ t.pool = s.pool) ∧
        ∀ x : Reception, s.line.reception = some x →
          (x.mode = .ignoring → t.line = s.line ∧ t.pool = s.pool) ∧
          ∀ (r : Handle) (rec : FrameRecord), x.mode = .storing r → s.record r = some rec →
            t.pool = (s.dropRef r).pool ∧
            t.line =
              { s.line with
                reception := some { x with mode := .ignoring }
                counters :=
                  if rec.exhausted = some true then
                    { s.line.counters with noCells := bump s.line.counters.noCells }
                  else { s.line.counters with lineDisabled := bump s.line.counters.lineDisabled } })

/-! ### Laws that every step keeps -/

/-- Every step keeps the active record and a pending proposal in their ranges, a pending proposal with the last serial, the
generation in force, a proposer without a vote, and an outstanding vote (R158, R160 to R168); and, in a state with those,
the fields of each entry as R1 and R2 give them and no address held by two entries (R3). -/
def Obligations.StepKeepsTheTableAndAccordLaws : Prop :=
  ∀ s t : State, s.AccordLaw → step s = .next t → t.AccordLaw ∧ (s.TableLaw → t.TableLaw)

/-- Every step keeps each cell in one place, free or in one chain, and each record free exactly when it stands on the free
record list (R65, R68); and it keeps the store in its canonical form, which is the model's (notes/assumptions/2). -/
def Obligations.StepKeepsThePoolLawAndTheStoreForm : Prop :=
  ∀ s t : State, step s = .next t →
    (s.PoolLaw → t.PoolLaw) ∧ (storeWf s.pool.store → storeWf t.pool.store)

/-- Every step keeps the reference count of each record equal to the number of positions and activities that name it, and
leaves no free record named (R69). -/
def Obligations.StepKeepsTheReferenceLaw : Prop :=
  ∀ s t : State, s.PoolLaw → s.ReferenceLaw → step s = .next t → t.ReferenceLaw

/-- Every step keeps each host's cell charge equal to the cells of the frames in its receive queue and hold list (R77). -/
def Obligations.StepKeepsTheChargeLaw : Prop :=
  ∀ s t : State, s.PoolLaw → s.ReferenceLaw → s.ChargeLaw → step s = .next t → t.ChargeLaw

/-- Every step keeps every list within its capacity, with a free place in the ring for the completion of the frame on the
path (R110, R142, R145, R182); nothing kept for a DETACHED host (R18, R155, R179); and, in a state with both, the receive
queue of a host awake full while its hold list holds a frame (R110). -/
def Obligations.StepKeepsTheListsOfEveryHost : Prop :=
  ∀ s t : State, step s = .next t →
    (s.CapacityLaw → t.CapacityLaw) ∧ (s.AttachmentLaw → t.AttachmentLaw) ∧
      (s.CapacityLaw → s.AttachmentLaw → s.HeldLaw → t.HeldLaw)

/-- Every step keeps the fields of each host present exactly in the reachability states that give them (R120, R137, R142,
R179); and the phase of each port in step with its buffers, every port without a transaction while it or the part is
reset (R171, R177, R181). That the request buffer is empty in IDLE after a release of select in RESPONSE too is the
model's reading (notes/assumptions/18). -/
def Obligations.StepKeepsReachabilityAndPhase : Prop :=
  ∀ s t : State, step s = .next t → (s.ReachLaw → t.ReachLaw) ∧ (s.PortLaw → t.PortLaw)

/-! ### Encoding -/

/-- A request laid out as section 11.1 says reads back: it is complete at its own length and not before, its bytes sum to
0, and its tag, parameter length and parameters are those it was made of (R172, R173, R186). -/
def Obligations.RequestReadsBack : Prop :=
  ∀ (code : Byte) (tag : Word16) (p : List Byte), p.length ≤ 1530 →
    let req := code :: requestBytes code tag p
    req.length = p.length + 6 ∧ requestEnd req = some req.length ∧
      (∀ n : Nat, n < req.length → requestEnd (req.take n) = none) ∧
      byteSum req = 0 ∧ requestTag req = tag ∧ requestLength req = p.length ∧ requestParams req = p

/-- A configuration record with every field in its range reads back from its 20 bytes, which are those of section 11.8,
and 20 bytes that read as a record are that record's bytes (R158, R187). That the line enable byte is 0 for off and 1
for on is the model's reading (notes/assumptions/13). -/
def Obligations.ConfigRecordReadsBack : Prop :=
  (∀ r : ConfigRecord, r.Lawful → (configRecordBytes r).length = 20 ∧ configRecordOf (configRecordBytes r) = some r) ∧
  (∀ r : ConfigRecord,
    configRecordBytes r =
      [match r.tickPeriod with
        | .ms1 => 0
        | .ms10 => 1
        | .ms100 => 2
        | .s1 => 3,
        byte r.probeWindow, byte r.stageHold, byte r.lapseGrace, byte r.accordWindow] ++
      (match r.unknown with
        | .discard => ([0, 0xFF] : List Byte)
        | .defaultHost h => [1, byte h.toNat]) ++
      [if r.lineEnable then 1 else 0, byte r.entryLimit.h0, byte r.entryLimit.h1, byte r.entryLimit.h2,
        byte r.entryLimit.h3] ++
      nat16Bytes r.cellQuota.h0 ++ nat16Bytes r.cellQuota.h1 ++ nat16Bytes r.cellQuota.h2 ++
      nat16Bytes r.cellQuota.h3) ∧
  ∀ (b : List Byte) (r : ConfigRecord), b.length = 20 → configRecordOf b = some r → r.Lawful ∧ configRecordBytes r = b
end

