-- ==== Sys2Proof/Laws/Framing.lean ====
section
/-! SUPPORT. Numbers as bytes and back, check bytes, and the places of a request's fields. -/

namespace Sys2Proof.Machine

/-! ### Bytes of a list by place -/

@[simp] theorem byteAt_zero (b : Byte) (l : List Byte) : byteAt (b :: l) 0 = b := rfl

@[simp] theorem byteAt_succ (b : Byte) (l : List Byte) (k : Nat) : byteAt (b :: l) (k + 1) = byteAt l k := rfl

@[simp] theorem byteAt_nil (k : Nat) : byteAt [] k = 0 := rfl

theorem byteAt_append_left (l m : List Byte) {k : Nat} (h : k < l.length) : byteAt (l ++ m) k = byteAt l k := by
  simp [byteAt, List.getElem?_append_left h]

theorem byteAt_append_right (l m : List Byte) (k : Nat) : byteAt (l ++ m) (l.length + k) = byteAt m k := by
  simp [byteAt, List.getElem?_append_right]

@[simp] theorem word16At_succ (b : Byte) (l : List Byte) (k : Nat) : word16At (b :: l) (k + 1) = word16At l k := rfl

@[simp] theorem addressAt_succ (b : Byte) (l : List Byte) (k : Nat) : addressAt (b :: l) (k + 1) = addressAt l k := rfl

/-! ### Numbers -/

@[simp] theorem length_word16Bytes (w : Word16) : (word16Bytes w).length = 2 := rfl

@[simp] theorem length_nat16Bytes (n : Nat) : (nat16Bytes n).length = 2 := rfl

@[simp] theorem length_word32Bytes (w : Word32) : (word32Bytes w).length = 4 := rfl

@[simp] theorem length_nat32Bytes (n : Nat) : (nat32Bytes n).length = 4 := rfl

@[simp] theorem length_addressBytes (a : Address) : (addressBytes a).length = 6 := rfl

/-- A 16-bit number reads back from its two bytes. -/
@[simp] theorem word16At_word16Bytes (w : Word16) (l : List Byte) : word16At (word16Bytes w ++ l) 0 = w := by
  show w.extractLsb' 8 8 ++ w.extractLsb' 0 8 = w
  ext i h
  simp only [BitVec.getElem_append, BitVec.getElem_extractLsb']
  split
  · simp [BitVec.getLsbD_eq_getElem h]
  · rw [show 8 + (i - 8) = i by omega, BitVec.getLsbD_eq_getElem h]

/-- The two bytes at a place spell the number that is read there. -/
theorem word16Bytes_append (a b : Byte) : word16Bytes (a ++ b) = [a, b] := by
  simp only [word16Bytes, List.cons.injEq, and_true]
  constructor <;> (ext i h; simp only [BitVec.getElem_extractLsb', BitVec.getLsbD_append]) <;>
    split <;> simp_all

@[simp] theorem word16At_nat16Bytes (n : Nat) (l : List Byte) : word16At (nat16Bytes n ++ l) 0 = BitVec.ofNat 16 n :=
  word16At_word16Bytes ..

/-- A station address reads back from its six octets. -/
@[simp] theorem addressAt_addressBytes (a : Address) (l : List Byte) : addressAt (addressBytes a ++ l) 0 = a := by
  show a.extractLsb' 40 8 ++ a.extractLsb' 32 8 ++ a.extractLsb' 24 8 ++ a.extractLsb' 16 8 ++ a.extractLsb' 8 8 ++
    a.extractLsb' 0 8 = a
  ext i h
  simp only [BitVec.getElem_append, BitVec.getElem_extractLsb']
  simp only [← BitVec.getLsbD_eq_getElem h]
  repeat' split
  all_goals first | omega | (congr 1; omega)

/-! ### Sums and check bytes -/

theorem byteSum_foldl (l : List Byte) (a : Byte) : l.foldl (· + ·) a = a + byteSum l := by
  induction l generalizing a with
  | nil => simp [byteSum]
  | cons b l ih =>
    show l.foldl (· + ·) (a + b) = a + l.foldl (· + ·) (0 + b)
    rw [ih, ih (0 + b)]
    rw [show (0 : Byte) + b = b from BitVec.zero_add b]
    ac_rfl

@[simp] theorem byteSum_nil : byteSum [] = 0 := rfl

@[simp] theorem byteSum_cons (b : Byte) (l : List Byte) : byteSum (b :: l) = b + byteSum l := by
  rw [byteSum, List.foldl_cons, byteSum_foldl]; simp

theorem byteSum_append (l m : List Byte) : byteSum (l ++ m) = byteSum l + byteSum m := by
  rw [byteSum, List.foldl_append, byteSum_foldl]; rfl

/-- A check byte makes the sum of all bytes 0 (R173, R175). -/
theorem byteSum_checkByte (l : List Byte) : byteSum (l ++ [checkByte l]) = 0 := by
  simp only [byteSum_append, byteSum_cons, byteSum_nil, checkByte]
  bv_omega

end Sys2Proof.Machine
end

