-- ==== Sys2Proof/Laws/Memory.lean ====
section
/-! SUPPORT. The store of the Frame Pool: every write keeps its canonical form, a written byte reads back, every other
byte is as before, and two stores in canonical form that read the same are the same. -/

namespace Sys2Proof.Machine

theorem storeWf_nil : storeWf [] := ⟨List.Pairwise.nil, by simp⟩

/-- The store after reset is in canonical form. -/
theorem storeWf_reset : storeWf State.reset.pool.store := storeWf_nil

theorem storeWf_tail {x : Host.Cell} {m : List Host.Cell} (h : storeWf (x :: m)) : storeWf m :=
  ⟨h.1.of_cons, fun y hy => h.2 y (List.mem_cons_of_mem x hy)⟩

/-- Every address a write leaves listed was listed before or is the address written. -/
theorem mem_storeWrite {m : List Host.Cell} {a : Nat} {b : Byte} {x : Host.Cell} (h : x ∈ storeWrite m a b) :
    x ∈ m ∨ (x = (a, b) ∧ b ≠ 0) := by
  induction m with
  | nil => by_cases hb : b = 0 <;> simp_all [storeWrite]
  | cons y m ih =>
    obtain ⟨k, v⟩ := y
    simp only [storeWrite] at h
    split at h
    · split at h <;> simp_all; tauto
    · split at h
      · split at h <;> simp_all; tauto
      · rcases List.mem_cons.1 h with rfl | h
        · simp
        · rcases ih h with h | h <;> simp_all

/-- A write within the cells keeps the canonical form. -/
theorem storeWf_storeWrite {m : List Host.Cell} (h : storeWf m) {a : Nat} (b : Byte)
    (ha : a < Config.cellCount * Config.cellBytes) : storeWf (storeWrite m a b) := by
  refine ⟨?_, fun x hx => ?_⟩
  · induction m with
    | nil => unfold storeWrite; split <;> simp
    | cons y m ih =>
      obtain ⟨k, v⟩ := y
      have hk := List.pairwise_cons.1 h.1
      simp only [storeWrite]
      split
      · rename_i hlt
        split
        · exact h.1
        · refine List.pairwise_cons.2 ⟨fun x hx => ?_, h.1⟩
          rcases List.mem_cons.1 hx with rfl | hx
          · exact hlt
          · exact hlt.trans (hk.1 x hx)
      · rename_i hlt
        split
        · rename_i heq
          subst heq
          split
          · exact hk.2
          · exact List.pairwise_cons.2 ⟨fun x hx => hk.1 x hx, hk.2⟩
        · rename_i hne
          refine List.pairwise_cons.2 ⟨fun x hx => ?_, ih (storeWf_tail h)⟩
          rcases mem_storeWrite hx with hx | ⟨rfl, -⟩
          · exact hk.1 x hx
          · show k < a
            omega
  · rcases mem_storeWrite hx with hx | ⟨rfl, hb⟩
    · exact h.2 x hx
    · exact ⟨ha, hb⟩

/-- An address below every listed one reads 0. -/
theorem storeRead_of_lt {m : List Host.Cell} {a : Nat} (h : ∀ x ∈ m, a < x.1) : storeRead m a = 0 := by
  induction m with
  | nil => rfl
  | cons y m ih =>
    obtain ⟨k, v⟩ := y
    have := h (k, v) (by simp)
    simp only [storeRead]
    rw [if_neg (by simp at this; omega)]
    exact ih fun x hx => h x (List.mem_cons_of_mem _ hx)

/-- A read after a write: the byte written at its address, and every other byte as before. -/
theorem storeRead_storeWrite {m : List Host.Cell} (h : m.Pairwise (fun x y => x.1 < y.1)) (a : Nat) (b : Byte) (c : Nat) :
    storeRead (storeWrite m a b) c = if c = a then b else storeRead m c := by
  induction m with
  | nil =>
    simp only [storeWrite]
    split <;> by_cases hc : c = a <;> simp_all [storeRead]
  | cons y m ih =>
    obtain ⟨k, v⟩ := y
    have hk := List.pairwise_cons.1 h
    simp only [storeWrite]
    split
    · rename_i hlt
      have hz : storeRead ((k, v) :: m) a = 0 := by
        refine storeRead_of_lt fun x hx => ?_
        rcases List.mem_cons.1 hx with rfl | hx
        · exact hlt
        · exact hlt.trans (hk.1 x hx)
      split
      · rename_i hb
        split
        · rename_i hc; rw [hc, hz, hb]
        · rfl
      · rfl
    · split
      · rename_i _ heq
        subst heq
        have hz : storeRead m a = 0 := storeRead_of_lt hk.1
        split
        · rename_i hb
          by_cases hc : c = a <;> simp [storeRead, hc, hz, hb]
        · by_cases hc : c = a <;> simp [storeRead, hc]
      · rename_i hne
        simp only [storeRead, ih hk.2]
        split
        · rename_i hc; subst hc; rw [if_neg (by omega)]
        · rfl

/-- A write of a stored byte of a frame keeps the canonical form. -/
theorem storeWf_writeChainByte {m : List Host.Cell} (h : storeWf m) (chain : List CellId) (k : Nat) (b : Byte) :
    storeWf (writeChainByte m chain k b) := by
  unfold writeChainByte
  split
  · refine storeWf_storeWrite h b ?_
    rename_i c _
    have h1 := c.isLt
    have h2 : k % Config.cellBytes < Config.cellBytes := Nat.mod_lt _ (by decide)
    simp only [cellAddress, Config.cellBytes, Config.cellCount] at *
    omega
  · exact h

/-- Writing the bytes of a frame keeps the canonical form. -/
theorem storeWf_writeChain {m : List Host.Cell} (h : storeWf m) (chain : List CellId) (k : Nat) (bs : List Byte) :
    storeWf (writeChain m chain k bs) := by
  induction bs generalizing m k with
  | nil => exact h
  | cons b bs ih => exact ih (storeWf_writeChainByte h chain k b) (k + 1)

/-- Two stores in canonical form that read the same at every address are the same. -/
theorem store_ext {m n : List Host.Cell} (hm : storeWf m) (hn : storeWf n)
    (e : ∀ a, storeRead m a = storeRead n a) : m = n := by
  induction m generalizing n with
  | nil =>
    cases n with
    | nil => rfl
    | cons y n =>
      have h1 := e y.1
      have h2 := (hn.2 y (by simp)).2
      simp [storeRead] at h1
      exact absurd h1.symm h2
  | cons x m ih =>
    have hx := List.pairwise_cons.1 hm.1
    cases n with
    | nil =>
      have h1 := e x.1
      have h2 := (hm.2 x (by simp)).2
      simp [storeRead] at h1
      exact absurd h1 h2
    | cons y n =>
      have hy := List.pairwise_cons.1 hn.1
      have hxy : x.1 = y.1 := by
        rcases Nat.lt_trichotomy x.1 y.1 with hlt | heq | hgt
        · have h1 := e x.1
          rw [storeRead_of_lt (m := y :: n) (fun z hz => by
            rcases List.mem_cons.1 hz with rfl | hz
            · exact hlt
            · exact hlt.trans (hy.1 z hz))] at h1
          simp [storeRead] at h1
          exact absurd h1 (hm.2 x (by simp)).2
        · exact heq
        · have h1 := e y.1
          rw [storeRead_of_lt (m := x :: m) (fun z hz => by
            rcases List.mem_cons.1 hz with rfl | hz
            · exact hgt
            · exact hgt.trans (hx.1 z hz))] at h1
          simp [storeRead] at h1
          exact absurd h1.symm (hn.2 y (by simp)).2
      have hv : x.2 = y.2 := by
        have h1 := e x.1
        simpa [storeRead, hxy] using h1
      have hxy' : x = y := Prod.ext hxy hv
      subst hxy'
      congr 1
      refine ih (storeWf_tail hm) (storeWf_tail hn) fun a => ?_
      by_cases ha : a = x.1
      · subst ha
        rw [storeRead_of_lt hx.1, storeRead_of_lt hy.1]
      · have h1 := e a
        simpa [storeRead, ha] using h1

end Sys2Proof.Machine
end

