-- ==== Sys2Proof/Laws/State.lean ====
section
/-! SUPPORT. What each update of the state leaves alone, one lemma per field, and what it writes, read through the
accessor of the place. -/

namespace Sys2Proof

/-! ### One value per host -/

@[simp] theorem PerHost.get_set_self {α : Type} (p : PerHost α) (h : HostId) (v : α) : (p.set h v).get h = v := by
  cases h <;> rfl

theorem PerHost.get_set_ne {α : Type} (p : PerHost α) {h k : HostId} (v : α) (hk : k ≠ h) :
    (p.set h v).get k = p.get k := by
  cases h <;> cases k <;> first | rfl | exact absurd rfl hk

theorem PerHost.get_set {α : Type} (p : PerHost α) (h k : HostId) (v : α) :
    (p.set h v).get k = if k = h then v else p.get k := by
  cases h <;> cases k <;> rfl

theorem PerHost.ext_get {α : Type} {p q : PerHost α} (e : ∀ h, p.get h = q.get h) : p = q := by
  cases p; cases q
  simp only [PerHost.mk.injEq]
  exact ⟨e .h0, e .h1, e .h2, e .h3⟩

@[simp] theorem PerHost.set_get {α : Type} (p : PerHost α) (h : HostId) : p.set h (p.get h) = p := by
  cases h <;> rfl

@[simp] theorem PerHost.set_set {α : Type} (p : PerHost α) (h : HostId) (v w : α) : (p.set h v).set h w = p.set h w := by
  cases h <;> rfl

@[simp] theorem PerHost.get_same {α : Type} (v : α) (h : HostId) : (PerHost.same v).get h = v := by cases h <;> rfl

@[simp] theorem PerHost.get_map {α β : Type} (p : PerHost α) (f : α → β) (h : HostId) : (p.map f).get h = f (p.get h) := by
  cases h <;> rfl

theorem HostId.mem_all (h : HostId) : h ∈ HostId.all := by cases h <;> decide

theorem HostId.all_nodup : HostId.all.Nodup := by decide

theorem PerHost.mem_members {p : PerHost Bool} {h : HostId} : h ∈ p.members ↔ p.get h = true := by
  simp [PerHost.members, HostId.mem_all]

theorem mapVector_getElem {α β : Type} {n : Nat} (v : Vector α n) (f : α → β) (i : Nat) (hi : i < n) :
    (mapVector v f)[i] = f v[i] := by
  simp [mapVector]

end Sys2Proof

namespace Sys2Proof.Machine

/-! ### `setHost` -/

@[simp] theorem State.setHost_resetting (s : State) (h : HostId) (c : HostCtx) : (s.setHost h c).resetting = s.resetting := rfl
@[simp] theorem State.setHost_resetCause (s : State) (h : HostId) (c : HostCtx) : (s.setHost h c).resetCause = s.resetCause := rfl
@[simp] theorem State.setHost_table (s : State) (h : HostId) (c : HostCtx) : (s.setHost h c).table = s.table := rfl
@[simp] theorem State.setHost_tick (s : State) (h : HostId) (c : HostCtx) : (s.setHost h c).tick = s.tick := rfl
@[simp] theorem State.setHost_pool (s : State) (h : HostId) (c : HostCtx) : (s.setHost h c).pool = s.pool := rfl
@[simp] theorem State.setHost_line (s : State) (h : HostId) (c : HostCtx) : (s.setHost h c).line = s.line := rfl
@[simp] theorem State.setHost_arbiter (s : State) (h : HostId) (c : HostCtx) : (s.setHost h c).arbiter = s.arbiter := rfl
@[simp] theorem State.setHost_accord (s : State) (h : HostId) (c : HostCtx) : (s.setHost h c).accord = s.accord := rfl
@[simp] theorem State.setHost_ports (s : State) (h : HostId) (c : HostCtx) : (s.setHost h c).ports = s.ports := rfl
@[simp] theorem State.setHost_pending (s : State) (h : HostId) (c : HostCtx) : (s.setHost h c).pending = s.pending := rfl

/-! ### `setTx` -/

@[simp] theorem State.setTx_resetting (s : State) (h : HostId) (t : TxHost) : (s.setTx h t).resetting = s.resetting := rfl
@[simp] theorem State.setTx_resetCause (s : State) (h : HostId) (t : TxHost) : (s.setTx h t).resetCause = s.resetCause := rfl
@[simp] theorem State.setTx_table (s : State) (h : HostId) (t : TxHost) : (s.setTx h t).table = s.table := rfl
@[simp] theorem State.setTx_tick (s : State) (h : HostId) (t : TxHost) : (s.setTx h t).tick = s.tick := rfl
@[simp] theorem State.setTx_pool (s : State) (h : HostId) (t : TxHost) : (s.setTx h t).pool = s.pool := rfl
@[simp] theorem State.setTx_line (s : State) (h : HostId) (t : TxHost) : (s.setTx h t).line = s.line := rfl
@[simp] theorem State.setTx_hosts (s : State) (h : HostId) (t : TxHost) : (s.setTx h t).hosts = s.hosts := rfl
@[simp] theorem State.setTx_accord (s : State) (h : HostId) (t : TxHost) : (s.setTx h t).accord = s.accord := rfl
@[simp] theorem State.setTx_ports (s : State) (h : HostId) (t : TxHost) : (s.setTx h t).ports = s.ports := rfl
@[simp] theorem State.setTx_pending (s : State) (h : HostId) (t : TxHost) : (s.setTx h t).pending = s.pending := rfl

/-! ### `setPath` -/

@[simp] theorem State.setPath_resetting (s : State) (p : Option OnPath) : (s.setPath p).resetting = s.resetting := rfl
@[simp] theorem State.setPath_resetCause (s : State) (p : Option OnPath) : (s.setPath p).resetCause = s.resetCause := rfl
@[simp] theorem State.setPath_table (s : State) (p : Option OnPath) : (s.setPath p).table = s.table := rfl
@[simp] theorem State.setPath_tick (s : State) (p : Option OnPath) : (s.setPath p).tick = s.tick := rfl
@[simp] theorem State.setPath_pool (s : State) (p : Option OnPath) : (s.setPath p).pool = s.pool := rfl
@[simp] theorem State.setPath_line (s : State) (p : Option OnPath) : (s.setPath p).line = s.line := rfl
@[simp] theorem State.setPath_hosts (s : State) (p : Option OnPath) : (s.setPath p).hosts = s.hosts := rfl
@[simp] theorem State.setPath_accord (s : State) (p : Option OnPath) : (s.setPath p).accord = s.accord := rfl
@[simp] theorem State.setPath_ports (s : State) (p : Option OnPath) : (s.setPath p).ports = s.ports := rfl
@[simp] theorem State.setPath_pending (s : State) (p : Option OnPath) : (s.setPath p).pending = s.pending := rfl

/-! ### `setPort` -/

@[simp] theorem State.setPort_resetting (s : State) (h : HostId) (p : Port) : (s.setPort h p).resetting = s.resetting := rfl
@[simp] theorem State.setPort_resetCause (s : State) (h : HostId) (p : Port) : (s.setPort h p).resetCause = s.resetCause := rfl
@[simp] theorem State.setPort_table (s : State) (h : HostId) (p : Port) : (s.setPort h p).table = s.table := rfl
@[simp] theorem State.setPort_tick (s : State) (h : HostId) (p : Port) : (s.setPort h p).tick = s.tick := rfl
@[simp] theorem State.setPort_pool (s : State) (h : HostId) (p : Port) : (s.setPort h p).pool = s.pool := rfl
@[simp] theorem State.setPort_line (s : State) (h : HostId) (p : Port) : (s.setPort h p).line = s.line := rfl
@[simp] theorem State.setPort_hosts (s : State) (h : HostId) (p : Port) : (s.setPort h p).hosts = s.hosts := rfl
@[simp] theorem State.setPort_arbiter (s : State) (h : HostId) (p : Port) : (s.setPort h p).arbiter = s.arbiter := rfl
@[simp] theorem State.setPort_accord (s : State) (h : HostId) (p : Port) : (s.setPort h p).accord = s.accord := rfl
@[simp] theorem State.setPort_pending (s : State) (h : HostId) (p : Port) : (s.setPort h p).pending = s.pending := rfl

/-! ### `setEntry` -/

@[simp] theorem State.setEntry_resetting (s : State) (i : Index) (e : Entry) : (s.setEntry i e).resetting = s.resetting := rfl
@[simp] theorem State.setEntry_resetCause (s : State) (i : Index) (e : Entry) : (s.setEntry i e).resetCause = s.resetCause := rfl
@[simp] theorem State.setEntry_tick (s : State) (i : Index) (e : Entry) : (s.setEntry i e).tick = s.tick := rfl
@[simp] theorem State.setEntry_pool (s : State) (i : Index) (e : Entry) : (s.setEntry i e).pool = s.pool := rfl
@[simp] theorem State.setEntry_line (s : State) (i : Index) (e : Entry) : (s.setEntry i e).line = s.line := rfl
@[simp] theorem State.setEntry_hosts (s : State) (i : Index) (e : Entry) : (s.setEntry i e).hosts = s.hosts := rfl
@[simp] theorem State.setEntry_arbiter (s : State) (i : Index) (e : Entry) : (s.setEntry i e).arbiter = s.arbiter := rfl
@[simp] theorem State.setEntry_accord (s : State) (i : Index) (e : Entry) : (s.setEntry i e).accord = s.accord := rfl
@[simp] theorem State.setEntry_ports (s : State) (i : Index) (e : Entry) : (s.setEntry i e).ports = s.ports := rfl
@[simp] theorem State.setEntry_pending (s : State) (i : Index) (e : Entry) : (s.setEntry i e).pending = s.pending := rfl

/-! ### `setClaim` -/

@[simp] theorem State.setClaim_resetting (s : State) (i : Index) (c : Claim) : (s.setClaim i c).resetting = s.resetting := rfl
@[simp] theorem State.setClaim_resetCause (s : State) (i : Index) (c : Claim) : (s.setClaim i c).resetCause = s.resetCause := rfl
@[simp] theorem State.setClaim_tick (s : State) (i : Index) (c : Claim) : (s.setClaim i c).tick = s.tick := rfl
@[simp] theorem State.setClaim_pool (s : State) (i : Index) (c : Claim) : (s.setClaim i c).pool = s.pool := rfl
@[simp] theorem State.setClaim_line (s : State) (i : Index) (c : Claim) : (s.setClaim i c).line = s.line := rfl
@[simp] theorem State.setClaim_hosts (s : State) (i : Index) (c : Claim) : (s.setClaim i c).hosts = s.hosts := rfl
@[simp] theorem State.setClaim_arbiter (s : State) (i : Index) (c : Claim) : (s.setClaim i c).arbiter = s.arbiter := rfl
@[simp] theorem State.setClaim_accord (s : State) (i : Index) (c : Claim) : (s.setClaim i c).accord = s.accord := rfl
@[simp] theorem State.setClaim_ports (s : State) (i : Index) (c : Claim) : (s.setClaim i c).ports = s.ports := rfl
@[simp] theorem State.setClaim_pending (s : State) (i : Index) (c : Claim) : (s.setClaim i c).pending = s.pending := rfl

/-! ### `setGroup` -/

@[simp] theorem State.setGroup_resetting (s : State) (i : Index) (g : Group) : (s.setGroup i g).resetting = s.resetting := rfl
@[simp] theorem State.setGroup_resetCause (s : State) (i : Index) (g : Group) : (s.setGroup i g).resetCause = s.resetCause := rfl
@[simp] theorem State.setGroup_tick (s : State) (i : Index) (g : Group) : (s.setGroup i g).tick = s.tick := rfl
@[simp] theorem State.setGroup_pool (s : State) (i : Index) (g : Group) : (s.setGroup i g).pool = s.pool := rfl
@[simp] theorem State.setGroup_line (s : State) (i : Index) (g : Group) : (s.setGroup i g).line = s.line := rfl
@[simp] theorem State.setGroup_hosts (s : State) (i : Index) (g : Group) : (s.setGroup i g).hosts = s.hosts := rfl
@[simp] theorem State.setGroup_arbiter (s : State) (i : Index) (g : Group) : (s.setGroup i g).arbiter = s.arbiter := rfl
@[simp] theorem State.setGroup_accord (s : State) (i : Index) (g : Group) : (s.setGroup i g).accord = s.accord := rfl
@[simp] theorem State.setGroup_ports (s : State) (i : Index) (g : Group) : (s.setGroup i g).ports = s.ports := rfl
@[simp] theorem State.setGroup_pending (s : State) (i : Index) (g : Group) : (s.setGroup i g).pending = s.pending := rfl

/-! ### `freeEntry` -/

@[simp] theorem State.freeEntry_resetting (s : State) (i : Index) : (s.freeEntry i).resetting = s.resetting := rfl
@[simp] theorem State.freeEntry_resetCause (s : State) (i : Index) : (s.freeEntry i).resetCause = s.resetCause := rfl
@[simp] theorem State.freeEntry_tick (s : State) (i : Index) : (s.freeEntry i).tick = s.tick := rfl
@[simp] theorem State.freeEntry_pool (s : State) (i : Index) : (s.freeEntry i).pool = s.pool := rfl
@[simp] theorem State.freeEntry_line (s : State) (i : Index) : (s.freeEntry i).line = s.line := rfl
@[simp] theorem State.freeEntry_hosts (s : State) (i : Index) : (s.freeEntry i).hosts = s.hosts := rfl
@[simp] theorem State.freeEntry_arbiter (s : State) (i : Index) : (s.freeEntry i).arbiter = s.arbiter := rfl
@[simp] theorem State.freeEntry_accord (s : State) (i : Index) : (s.freeEntry i).accord = s.accord := rfl
@[simp] theorem State.freeEntry_ports (s : State) (i : Index) : (s.freeEntry i).ports = s.ports := rfl
@[simp] theorem State.freeEntry_pending (s : State) (i : Index) : (s.freeEntry i).pending = s.pending := rfl

/-! ### `setRecord` -/

@[simp] theorem State.setRecord_resetting (s : State) (r : Handle) (rec : Option FrameRecord) : (s.setRecord r rec).resetting = s.resetting := rfl
@[simp] theorem State.setRecord_resetCause (s : State) (r : Handle) (rec : Option FrameRecord) : (s.setRecord r rec).resetCause = s.resetCause := rfl
@[simp] theorem State.setRecord_table (s : State) (r : Handle) (rec : Option FrameRecord) : (s.setRecord r rec).table = s.table := rfl
@[simp] theorem State.setRecord_tick (s : State) (r : Handle) (rec : Option FrameRecord) : (s.setRecord r rec).tick = s.tick := rfl
@[simp] theorem State.setRecord_line (s : State) (r : Handle) (rec : Option FrameRecord) : (s.setRecord r rec).line = s.line := rfl
@[simp] theorem State.setRecord_hosts (s : State) (r : Handle) (rec : Option FrameRecord) : (s.setRecord r rec).hosts = s.hosts := rfl
@[simp] theorem State.setRecord_arbiter (s : State) (r : Handle) (rec : Option FrameRecord) : (s.setRecord r rec).arbiter = s.arbiter := rfl
@[simp] theorem State.setRecord_accord (s : State) (r : Handle) (rec : Option FrameRecord) : (s.setRecord r rec).accord = s.accord := rfl
@[simp] theorem State.setRecord_ports (s : State) (r : Handle) (rec : Option FrameRecord) : (s.setRecord r rec).ports = s.ports := rfl
@[simp] theorem State.setRecord_pending (s : State) (r : Handle) (rec : Option FrameRecord) : (s.setRecord r rec).pending = s.pending := rfl

/-! ### `freeRecord` -/

@[simp] theorem State.freeRecord_resetting (s : State) (r : Handle) (chain : List CellId) : (s.freeRecord r chain).resetting = s.resetting := rfl
@[simp] theorem State.freeRecord_resetCause (s : State) (r : Handle) (chain : List CellId) : (s.freeRecord r chain).resetCause = s.resetCause := rfl
@[simp] theorem State.freeRecord_table (s : State) (r : Handle) (chain : List CellId) : (s.freeRecord r chain).table = s.table := rfl
@[simp] theorem State.freeRecord_tick (s : State) (r : Handle) (chain : List CellId) : (s.freeRecord r chain).tick = s.tick := rfl
@[simp] theorem State.freeRecord_line (s : State) (r : Handle) (chain : List CellId) : (s.freeRecord r chain).line = s.line := rfl
@[simp] theorem State.freeRecord_hosts (s : State) (r : Handle) (chain : List CellId) : (s.freeRecord r chain).hosts = s.hosts := rfl
@[simp] theorem State.freeRecord_arbiter (s : State) (r : Handle) (chain : List CellId) : (s.freeRecord r chain).arbiter = s.arbiter := rfl
@[simp] theorem State.freeRecord_accord (s : State) (r : Handle) (chain : List CellId) : (s.freeRecord r chain).accord = s.accord := rfl
@[simp] theorem State.freeRecord_ports (s : State) (r : Handle) (chain : List CellId) : (s.freeRecord r chain).ports = s.ports := rfl
@[simp] theorem State.freeRecord_pending (s : State) (r : Handle) (chain : List CellId) : (s.freeRecord r chain).pending = s.pending := rfl

/-! ### `setReception` -/

@[simp] theorem State.setReception_resetting (s : State) (r : Option Reception) : (s.setReception r).resetting = s.resetting := rfl
@[simp] theorem State.setReception_resetCause (s : State) (r : Option Reception) : (s.setReception r).resetCause = s.resetCause := rfl
@[simp] theorem State.setReception_table (s : State) (r : Option Reception) : (s.setReception r).table = s.table := rfl
@[simp] theorem State.setReception_tick (s : State) (r : Option Reception) : (s.setReception r).tick = s.tick := rfl
@[simp] theorem State.setReception_pool (s : State) (r : Option Reception) : (s.setReception r).pool = s.pool := rfl
@[simp] theorem State.setReception_hosts (s : State) (r : Option Reception) : (s.setReception r).hosts = s.hosts := rfl
@[simp] theorem State.setReception_arbiter (s : State) (r : Option Reception) : (s.setReception r).arbiter = s.arbiter := rfl
@[simp] theorem State.setReception_accord (s : State) (r : Option Reception) : (s.setReception r).accord = s.accord := rfl
@[simp] theorem State.setReception_ports (s : State) (r : Option Reception) : (s.setReception r).ports = s.ports := rfl
@[simp] theorem State.setReception_pending (s : State) (r : Option Reception) : (s.setReception r).pending = s.pending := rfl

/-! ### `countDevice` -/

@[simp] theorem State.countDevice_resetting (s : State) (f : DeviceCounters → DeviceCounters) : (s.countDevice f).resetting = s.resetting := rfl
@[simp] theorem State.countDevice_resetCause (s : State) (f : DeviceCounters → DeviceCounters) : (s.countDevice f).resetCause = s.resetCause := rfl
@[simp] theorem State.countDevice_table (s : State) (f : DeviceCounters → DeviceCounters) : (s.countDevice f).table = s.table := rfl
@[simp] theorem State.countDevice_tick (s : State) (f : DeviceCounters → DeviceCounters) : (s.countDevice f).tick = s.tick := rfl
@[simp] theorem State.countDevice_pool (s : State) (f : DeviceCounters → DeviceCounters) : (s.countDevice f).pool = s.pool := rfl
@[simp] theorem State.countDevice_hosts (s : State) (f : DeviceCounters → DeviceCounters) : (s.countDevice f).hosts = s.hosts := rfl
@[simp] theorem State.countDevice_arbiter (s : State) (f : DeviceCounters → DeviceCounters) : (s.countDevice f).arbiter = s.arbiter := rfl
@[simp] theorem State.countDevice_accord (s : State) (f : DeviceCounters → DeviceCounters) : (s.countDevice f).accord = s.accord := rfl
@[simp] theorem State.countDevice_ports (s : State) (f : DeviceCounters → DeviceCounters) : (s.countDevice f).ports = s.ports := rfl
@[simp] theorem State.countDevice_pending (s : State) (f : DeviceCounters → DeviceCounters) : (s.countDevice f).pending = s.pending := rfl

/-! ### `countHost` -/

@[simp] theorem State.countHost_resetting (s : State) (h : HostId) (f : HostCounters → HostCounters) : (s.countHost h f).resetting = s.resetting := rfl
@[simp] theorem State.countHost_resetCause (s : State) (h : HostId) (f : HostCounters → HostCounters) : (s.countHost h f).resetCause = s.resetCause := rfl
@[simp] theorem State.countHost_table (s : State) (h : HostId) (f : HostCounters → HostCounters) : (s.countHost h f).table = s.table := rfl
@[simp] theorem State.countHost_tick (s : State) (h : HostId) (f : HostCounters → HostCounters) : (s.countHost h f).tick = s.tick := rfl
@[simp] theorem State.countHost_pool (s : State) (h : HostId) (f : HostCounters → HostCounters) : (s.countHost h f).pool = s.pool := rfl
@[simp] theorem State.countHost_line (s : State) (h : HostId) (f : HostCounters → HostCounters) : (s.countHost h f).line = s.line := rfl
@[simp] theorem State.countHost_arbiter (s : State) (h : HostId) (f : HostCounters → HostCounters) : (s.countHost h f).arbiter = s.arbiter := rfl
@[simp] theorem State.countHost_accord (s : State) (h : HostId) (f : HostCounters → HostCounters) : (s.countHost h f).accord = s.accord := rfl
@[simp] theorem State.countHost_ports (s : State) (h : HostId) (f : HostCounters → HostCounters) : (s.countHost h f).ports = s.ports := rfl
@[simp] theorem State.countHost_pending (s : State) (h : HostId) (f : HostCounters → HostCounters) : (s.countHost h f).pending = s.pending := rfl

/-! ### `setAccord` -/

@[simp] theorem State.setAccord_resetting (s : State) (a : Accord) : (s.setAccord a).resetting = s.resetting := rfl
@[simp] theorem State.setAccord_resetCause (s : State) (a : Accord) : (s.setAccord a).resetCause = s.resetCause := rfl
@[simp] theorem State.setAccord_table (s : State) (a : Accord) : (s.setAccord a).table = s.table := rfl
@[simp] theorem State.setAccord_tick (s : State) (a : Accord) : (s.setAccord a).tick = s.tick := rfl
@[simp] theorem State.setAccord_pool (s : State) (a : Accord) : (s.setAccord a).pool = s.pool := rfl
@[simp] theorem State.setAccord_line (s : State) (a : Accord) : (s.setAccord a).line = s.line := rfl
@[simp] theorem State.setAccord_hosts (s : State) (a : Accord) : (s.setAccord a).hosts = s.hosts := rfl
@[simp] theorem State.setAccord_arbiter (s : State) (a : Accord) : (s.setAccord a).arbiter = s.arbiter := rfl
@[simp] theorem State.setAccord_ports (s : State) (a : Accord) : (s.setAccord a).ports = s.ports := rfl
@[simp] theorem State.setAccord_pending (s : State) (a : Accord) : (s.setAccord a).pending = s.pending := rfl

/-! ### `setHeld` -/

@[simp] theorem State.setHeld_resetting (s : State) (h : HostId) (b : Bool) : (s.setHeld h b).resetting = s.resetting := rfl
@[simp] theorem State.setHeld_resetCause (s : State) (h : HostId) (b : Bool) : (s.setHeld h b).resetCause = s.resetCause := rfl
@[simp] theorem State.setHeld_table (s : State) (h : HostId) (b : Bool) : (s.setHeld h b).table = s.table := rfl
@[simp] theorem State.setHeld_tick (s : State) (h : HostId) (b : Bool) : (s.setHeld h b).tick = s.tick := rfl
@[simp] theorem State.setHeld_pool (s : State) (h : HostId) (b : Bool) : (s.setHeld h b).pool = s.pool := rfl
@[simp] theorem State.setHeld_line (s : State) (h : HostId) (b : Bool) : (s.setHeld h b).line = s.line := rfl
@[simp] theorem State.setHeld_hosts (s : State) (h : HostId) (b : Bool) : (s.setHeld h b).hosts = s.hosts := rfl
@[simp] theorem State.setHeld_arbiter (s : State) (h : HostId) (b : Bool) : (s.setHeld h b).arbiter = s.arbiter := rfl
@[simp] theorem State.setHeld_accord (s : State) (h : HostId) (b : Bool) : (s.setHeld h b).accord = s.accord := rfl
@[simp] theorem State.setHeld_pending (s : State) (h : HostId) (b : Bool) : (s.setHeld h b).pending = s.pending := rfl

/-! ### `setDetachCause` -/

@[simp] theorem State.setDetachCause_resetting (s : State) (h : HostId) (c : DetachCause) : (s.setDetachCause h c).resetting = s.resetting := rfl
@[simp] theorem State.setDetachCause_resetCause (s : State) (h : HostId) (c : DetachCause) : (s.setDetachCause h c).resetCause = s.resetCause := rfl
@[simp] theorem State.setDetachCause_table (s : State) (h : HostId) (c : DetachCause) : (s.setDetachCause h c).table = s.table := rfl
@[simp] theorem State.setDetachCause_tick (s : State) (h : HostId) (c : DetachCause) : (s.setDetachCause h c).tick = s.tick := rfl
@[simp] theorem State.setDetachCause_pool (s : State) (h : HostId) (c : DetachCause) : (s.setDetachCause h c).pool = s.pool := rfl
@[simp] theorem State.setDetachCause_line (s : State) (h : HostId) (c : DetachCause) : (s.setDetachCause h c).line = s.line := rfl
@[simp] theorem State.setDetachCause_hosts (s : State) (h : HostId) (c : DetachCause) : (s.setDetachCause h c).hosts = s.hosts := rfl
@[simp] theorem State.setDetachCause_arbiter (s : State) (h : HostId) (c : DetachCause) : (s.setDetachCause h c).arbiter = s.arbiter := rfl
@[simp] theorem State.setDetachCause_accord (s : State) (h : HostId) (c : DetachCause) : (s.setDetachCause h c).accord = s.accord := rfl
@[simp] theorem State.setDetachCause_pending (s : State) (h : HostId) (c : DetachCause) : (s.setDetachCause h c).pending = s.pending := rfl

/-! ### Places read after an update -/

theorem State.host_setHost (s : State) (h k : HostId) (c : HostCtx) :
    (s.setHost h c).host k = if k = h then c else s.host k := PerHost.get_set ..

@[simp] theorem State.host_setHost_self (s : State) (h : HostId) (c : HostCtx) : (s.setHost h c).host h = c :=
  PerHost.get_set_self ..

@[simp] theorem State.setHost_host (s : State) (h : HostId) : s.setHost h (s.host h) = s := by
  cases s; simp [State.setHost, State.host]

@[simp] theorem State.setHost_setHost (s : State) (h : HostId) (c d : HostCtx) :
    (s.setHost h c).setHost h d = s.setHost h d := by simp [State.setHost]

theorem State.tx_setTx (s : State) (h k : HostId) (t : TxHost) : (s.setTx h t).tx k = if k = h then t else s.tx k :=
  PerHost.get_set ..

@[simp] theorem State.tx_setTx_self (s : State) (h : HostId) (t : TxHost) : (s.setTx h t).tx h = t :=
  PerHost.get_set_self ..

theorem State.port_setPort (s : State) (h k : HostId) (p : Port) :
    (s.setPort h p).port k = if k = h then p else s.port k := PerHost.get_set ..

@[simp] theorem State.port_setPort_self (s : State) (h : HostId) (p : Port) : (s.setPort h p).port h = p :=
  PerHost.get_set_self ..

theorem State.entry_setEntry (s : State) (i j : Index) (e : Entry) :
    (s.setEntry i e).entry j = if j = i then e else s.entry j := by
  simp only [State.setEntry, State.entry, Fin.getElem_fin, Vector.getElem_set, Fin.ext_iff, eq_comm]

@[simp] theorem State.entry_setEntry_self (s : State) (i : Index) (e : Entry) : (s.setEntry i e).entry i = e := by
  simp [State.entry_setEntry]

theorem State.record_setRecord (s : State) (r q : Handle) (rec : Option FrameRecord) :
    (s.setRecord r rec).record q = if q = r then rec else s.record q := by
  simp only [State.setRecord, State.record, Fin.getElem_fin, Vector.getElem_set, Fin.ext_iff, eq_comm]

@[simp] theorem State.record_setRecord_self (s : State) (r : Handle) (rec : Option FrameRecord) :
    (s.setRecord r rec).record r = rec := by
  simp [State.record_setRecord]

/-! ### Accessors of the places an update does not touch -/

@[simp] theorem State.tx_setHost (s : State) (h : HostId) (c : HostCtx) (k : HostId) : (s.setHost h c).tx k = s.tx k := rfl
@[simp] theorem State.port_setHost (s : State) (h : HostId) (c : HostCtx) (k : HostId) : (s.setHost h c).port k = s.port k := rfl
@[simp] theorem State.entry_setHost (s : State) (h : HostId) (c : HostCtx) (j : Index) : (s.setHost h c).entry j = s.entry j := rfl
@[simp] theorem State.record_setHost (s : State) (h : HostId) (c : HostCtx) (q : Handle) : (s.setHost h c).record q = s.record q := rfl
@[simp] theorem State.stamp_setHost (s : State) (h : HostId) (c : HostCtx) : (s.setHost h c).stamp = s.stamp := rfl
@[simp] theorem State.host_setTx (s : State) (h : HostId) (t : TxHost) (k : HostId) : (s.setTx h t).host k = s.host k := rfl
@[simp] theorem State.port_setTx (s : State) (h : HostId) (t : TxHost) (k : HostId) : (s.setTx h t).port k = s.port k := rfl
@[simp] theorem State.entry_setTx (s : State) (h : HostId) (t : TxHost) (j : Index) : (s.setTx h t).entry j = s.entry j := rfl
@[simp] theorem State.record_setTx (s : State) (h : HostId) (t : TxHost) (q : Handle) : (s.setTx h t).record q = s.record q := rfl
@[simp] theorem State.attached_setTx (s : State) (h : HostId) (t : TxHost) (k : HostId) : (s.setTx h t).attached k = s.attached k := rfl
@[simp] theorem State.asleep_setTx (s : State) (h : HostId) (t : TxHost) (k : HostId) : (s.setTx h t).asleep k = s.asleep k := rfl
@[simp] theorem State.stamp_setTx (s : State) (h : HostId) (t : TxHost) : (s.setTx h t).stamp = s.stamp := rfl
@[simp] theorem State.host_setPath (s : State) (p : Option OnPath) (k : HostId) : (s.setPath p).host k = s.host k := rfl
@[simp] theorem State.tx_setPath (s : State) (p : Option OnPath) (k : HostId) : (s.setPath p).tx k = s.tx k := rfl
@[simp] theorem State.port_setPath (s : State) (p : Option OnPath) (k : HostId) : (s.setPath p).port k = s.port k := rfl
@[simp] theorem State.entry_setPath (s : State) (p : Option OnPath) (j : Index) : (s.setPath p).entry j = s.entry j := rfl
@[simp] theorem State.record_setPath (s : State) (p : Option OnPath) (q : Handle) : (s.setPath p).record q = s.record q := rfl
@[simp] theorem State.attached_setPath (s : State) (p : Option OnPath) (k : HostId) : (s.setPath p).attached k = s.attached k := rfl
@[simp] theorem State.asleep_setPath (s : State) (p : Option OnPath) (k : HostId) : (s.setPath p).asleep k = s.asleep k := rfl
@[simp] theorem State.stamp_setPath (s : State) (p : Option OnPath) : (s.setPath p).stamp = s.stamp := rfl
@[simp] theorem State.host_setPort (s : State) (h : HostId) (p : Port) (k : HostId) : (s.setPort h p).host k = s.host k := rfl
@[simp] theorem State.tx_setPort (s : State) (h : HostId) (p : Port) (k : HostId) : (s.setPort h p).tx k = s.tx k := rfl
@[simp] theorem State.entry_setPort (s : State) (h : HostId) (p : Port) (j : Index) : (s.setPort h p).entry j = s.entry j := rfl
@[simp] theorem State.record_setPort (s : State) (h : HostId) (p : Port) (q : Handle) : (s.setPort h p).record q = s.record q := rfl
@[simp] theorem State.attached_setPort (s : State) (h : HostId) (p : Port) (k : HostId) : (s.setPort h p).attached k = s.attached k := rfl
@[simp] theorem State.asleep_setPort (s : State) (h : HostId) (p : Port) (k : HostId) : (s.setPort h p).asleep k = s.asleep k := rfl
@[simp] theorem State.stamp_setPort (s : State) (h : HostId) (p : Port) : (s.setPort h p).stamp = s.stamp := rfl
@[simp] theorem State.host_setEntry (s : State) (i : Index) (e : Entry) (k : HostId) : (s.setEntry i e).host k = s.host k := rfl
@[simp] theorem State.tx_setEntry (s : State) (i : Index) (e : Entry) (k : HostId) : (s.setEntry i e).tx k = s.tx k := rfl
@[simp] theorem State.port_setEntry (s : State) (i : Index) (e : Entry) (k : HostId) : (s.setEntry i e).port k = s.port k := rfl
@[simp] theorem State.record_setEntry (s : State) (i : Index) (e : Entry) (q : Handle) : (s.setEntry i e).record q = s.record q := rfl
@[simp] theorem State.attached_setEntry (s : State) (i : Index) (e : Entry) (k : HostId) : (s.setEntry i e).attached k = s.attached k := rfl
@[simp] theorem State.asleep_setEntry (s : State) (i : Index) (e : Entry) (k : HostId) : (s.setEntry i e).asleep k = s.asleep k := rfl
@[simp] theorem State.stamp_setEntry (s : State) (i : Index) (e : Entry) : (s.setEntry i e).stamp = s.stamp := rfl
@[simp] theorem State.host_setClaim (s : State) (i : Index) (c : Claim) (k : HostId) : (s.setClaim i c).host k = s.host k := rfl
@[simp] theorem State.tx_setClaim (s : State) (i : Index) (c : Claim) (k : HostId) : (s.setClaim i c).tx k = s.tx k := rfl
@[simp] theorem State.port_setClaim (s : State) (i : Index) (c : Claim) (k : HostId) : (s.setClaim i c).port k = s.port k := rfl
@[simp] theorem State.record_setClaim (s : State) (i : Index) (c : Claim) (q : Handle) : (s.setClaim i c).record q = s.record q := rfl
@[simp] theorem State.attached_setClaim (s : State) (i : Index) (c : Claim) (k : HostId) : (s.setClaim i c).attached k = s.attached k := rfl
@[simp] theorem State.asleep_setClaim (s : State) (i : Index) (c : Claim) (k : HostId) : (s.setClaim i c).asleep k = s.asleep k := rfl
@[simp] theorem State.stamp_setClaim (s : State) (i : Index) (c : Claim) : (s.setClaim i c).stamp = s.stamp := rfl
@[simp] theorem State.host_setGroup (s : State) (i : Index) (g : Group) (k : HostId) : (s.setGroup i g).host k = s.host k := rfl
@[simp] theorem State.tx_setGroup (s : State) (i : Index) (g : Group) (k : HostId) : (s.setGroup i g).tx k = s.tx k := rfl
@[simp] theorem State.port_setGroup (s : State) (i : Index) (g : Group) (k : HostId) : (s.setGroup i g).port k = s.port k := rfl
@[simp] theorem State.record_setGroup (s : State) (i : Index) (g : Group) (q : Handle) : (s.setGroup i g).record q = s.record q := rfl
@[simp] theorem State.attached_setGroup (s : State) (i : Index) (g : Group) (k : HostId) : (s.setGroup i g).attached k = s.attached k := rfl
@[simp] theorem State.asleep_setGroup (s : State) (i : Index) (g : Group) (k : HostId) : (s.setGroup i g).asleep k = s.asleep k := rfl
@[simp] theorem State.stamp_setGroup (s : State) (i : Index) (g : Group) : (s.setGroup i g).stamp = s.stamp := rfl
@[simp] theorem State.host_freeEntry (s : State) (i : Index) (k : HostId) : (s.freeEntry i).host k = s.host k := rfl
@[simp] theorem State.tx_freeEntry (s : State) (i : Index) (k : HostId) : (s.freeEntry i).tx k = s.tx k := rfl
@[simp] theorem State.port_freeEntry (s : State) (i : Index) (k : HostId) : (s.freeEntry i).port k = s.port k := rfl
@[simp] theorem State.record_freeEntry (s : State) (i : Index) (q : Handle) : (s.freeEntry i).record q = s.record q := rfl
@[simp] theorem State.attached_freeEntry (s : State) (i : Index) (k : HostId) : (s.freeEntry i).attached k = s.attached k := rfl
@[simp] theorem State.asleep_freeEntry (s : State) (i : Index) (k : HostId) : (s.freeEntry i).asleep k = s.asleep k := rfl
@[simp] theorem State.stamp_freeEntry (s : State) (i : Index) : (s.freeEntry i).stamp = s.stamp := rfl
@[simp] theorem State.host_setRecord (s : State) (r : Handle) (rec : Option FrameRecord) (k : HostId) : (s.setRecord r rec).host k = s.host k := rfl
@[simp] theorem State.tx_setRecord (s : State) (r : Handle) (rec : Option FrameRecord) (k : HostId) : (s.setRecord r rec).tx k = s.tx k := rfl
@[simp] theorem State.port_setRecord (s : State) (r : Handle) (rec : Option FrameRecord) (k : HostId) : (s.setRecord r rec).port k = s.port k := rfl
@[simp] theorem State.entry_setRecord (s : State) (r : Handle) (rec : Option FrameRecord) (j : Index) : (s.setRecord r rec).entry j = s.entry j := rfl
@[simp] theorem State.attached_setRecord (s : State) (r : Handle) (rec : Option FrameRecord) (k : HostId) : (s.setRecord r rec).attached k = s.attached k := rfl
@[simp] theorem State.asleep_setRecord (s : State) (r : Handle) (rec : Option FrameRecord) (k : HostId) : (s.setRecord r rec).asleep k = s.asleep k := rfl
@[simp] theorem State.stamp_setRecord (s : State) (r : Handle) (rec : Option FrameRecord) : (s.setRecord r rec).stamp = s.stamp := rfl
@[simp] theorem State.host_freeRecord (s : State) (r : Handle) (chain : List CellId) (k : HostId) : (s.freeRecord r chain).host k = s.host k := rfl
@[simp] theorem State.tx_freeRecord (s : State) (r : Handle) (chain : List CellId) (k : HostId) : (s.freeRecord r chain).tx k = s.tx k := rfl
@[simp] theorem State.port_freeRecord (s : State) (r : Handle) (chain : List CellId) (k : HostId) : (s.freeRecord r chain).port k = s.port k := rfl
@[simp] theorem State.entry_freeRecord (s : State) (r : Handle) (chain : List CellId) (j : Index) : (s.freeRecord r chain).entry j = s.entry j := rfl
@[simp] theorem State.attached_freeRecord (s : State) (r : Handle) (chain : List CellId) (k : HostId) : (s.freeRecord r chain).attached k = s.attached k := rfl
@[simp] theorem State.asleep_freeRecord (s : State) (r : Handle) (chain : List CellId) (k : HostId) : (s.freeRecord r chain).asleep k = s.asleep k := rfl
@[simp] theorem State.stamp_freeRecord (s : State) (r : Handle) (chain : List CellId) : (s.freeRecord r chain).stamp = s.stamp := rfl
@[simp] theorem State.host_setReception (s : State) (r : Option Reception) (k : HostId) : (s.setReception r).host k = s.host k := rfl
@[simp] theorem State.tx_setReception (s : State) (r : Option Reception) (k : HostId) : (s.setReception r).tx k = s.tx k := rfl
@[simp] theorem State.port_setReception (s : State) (r : Option Reception) (k : HostId) : (s.setReception r).port k = s.port k := rfl
@[simp] theorem State.entry_setReception (s : State) (r : Option Reception) (j : Index) : (s.setReception r).entry j = s.entry j := rfl
@[simp] theorem State.record_setReception (s : State) (r : Option Reception) (q : Handle) : (s.setReception r).record q = s.record q := rfl
@[simp] theorem State.attached_setReception (s : State) (r : Option Reception) (k : HostId) : (s.setReception r).attached k = s.attached k := rfl
@[simp] theorem State.asleep_setReception (s : State) (r : Option Reception) (k : HostId) : (s.setReception r).asleep k = s.asleep k := rfl
@[simp] theorem State.stamp_setReception (s : State) (r : Option Reception) : (s.setReception r).stamp = s.stamp := rfl
@[simp] theorem State.host_countDevice (s : State) (f : DeviceCounters → DeviceCounters) (k : HostId) : (s.countDevice f).host k = s.host k := rfl
@[simp] theorem State.tx_countDevice (s : State) (f : DeviceCounters → DeviceCounters) (k : HostId) : (s.countDevice f).tx k = s.tx k := rfl
@[simp] theorem State.port_countDevice (s : State) (f : DeviceCounters → DeviceCounters) (k : HostId) : (s.countDevice f).port k = s.port k := rfl
@[simp] theorem State.entry_countDevice (s : State) (f : DeviceCounters → DeviceCounters) (j : Index) : (s.countDevice f).entry j = s.entry j := rfl
@[simp] theorem State.record_countDevice (s : State) (f : DeviceCounters → DeviceCounters) (q : Handle) : (s.countDevice f).record q = s.record q := rfl
@[simp] theorem State.attached_countDevice (s : State) (f : DeviceCounters → DeviceCounters) (k : HostId) : (s.countDevice f).attached k = s.attached k := rfl
@[simp] theorem State.asleep_countDevice (s : State) (f : DeviceCounters → DeviceCounters) (k : HostId) : (s.countDevice f).asleep k = s.asleep k := rfl
@[simp] theorem State.stamp_countDevice (s : State) (f : DeviceCounters → DeviceCounters) : (s.countDevice f).stamp = s.stamp := rfl
@[simp] theorem State.tx_countHost (s : State) (h : HostId) (f : HostCounters → HostCounters) (k : HostId) : (s.countHost h f).tx k = s.tx k := rfl
@[simp] theorem State.port_countHost (s : State) (h : HostId) (f : HostCounters → HostCounters) (k : HostId) : (s.countHost h f).port k = s.port k := rfl
@[simp] theorem State.entry_countHost (s : State) (h : HostId) (f : HostCounters → HostCounters) (j : Index) : (s.countHost h f).entry j = s.entry j := rfl
@[simp] theorem State.record_countHost (s : State) (h : HostId) (f : HostCounters → HostCounters) (q : Handle) : (s.countHost h f).record q = s.record q := rfl
@[simp] theorem State.stamp_countHost (s : State) (h : HostId) (f : HostCounters → HostCounters) : (s.countHost h f).stamp = s.stamp := rfl
@[simp] theorem State.host_setAccord (s : State) (a : Accord) (k : HostId) : (s.setAccord a).host k = s.host k := rfl
@[simp] theorem State.tx_setAccord (s : State) (a : Accord) (k : HostId) : (s.setAccord a).tx k = s.tx k := rfl
@[simp] theorem State.port_setAccord (s : State) (a : Accord) (k : HostId) : (s.setAccord a).port k = s.port k := rfl
@[simp] theorem State.entry_setAccord (s : State) (a : Accord) (j : Index) : (s.setAccord a).entry j = s.entry j := rfl
@[simp] theorem State.record_setAccord (s : State) (a : Accord) (q : Handle) : (s.setAccord a).record q = s.record q := rfl
@[simp] theorem State.attached_setAccord (s : State) (a : Accord) (k : HostId) : (s.setAccord a).attached k = s.attached k := rfl
@[simp] theorem State.asleep_setAccord (s : State) (a : Accord) (k : HostId) : (s.setAccord a).asleep k = s.asleep k := rfl
@[simp] theorem State.stamp_setAccord (s : State) (a : Accord) : (s.setAccord a).stamp = s.stamp := rfl

/-! ### Conditions of a host after an update -/

@[simp] theorem State.attached_setHost_self (s : State) (h : HostId) (c : HostCtx) :
    (s.setHost h c).attached h = c.attached := by simp [State.attached]

@[simp] theorem State.asleep_setHost_self (s : State) (h : HostId) (c : HostCtx) :
    (s.setHost h c).asleep h = c.reach.isAsleep := by simp [State.asleep]

theorem HostCtx.attached_iff (c : HostCtx) : c.attached = true ↔ c.reach ≠ .detached := by simp [HostCtx.attached]

theorem Reach.not_asleep_iff (r : Reach) : r.isAsleep = false ↔ r = .detached ∨ r = .awake ∨ r = .dozing := by
  cases r <;> simp [Reach.isAsleep]

end Sys2Proof.Machine
end

