-- ==== Sys2Proof/Laws/Operands.lean ====
section
/-! SUPPORT. What the readers of operands answer, and what the searches of the station table find. -/

namespace Sys2Proof.Machine

/-! ### Enumerated bytes -/

/-- A reader of an enumerated byte finds the value whose code the byte is, where codes are distinct. -/
theorem ofCode_eq_some {α : Type} {all : List α} {code : α → Nat} (inj : ∀ a ∈ all, ∀ b ∈ all, code a = code b → a = b)
    {b : Byte} {v : α} (hv : v ∈ all) : ofCode all code b = some v ↔ code v = b.toNat := by
  constructor
  · intro h
    simpa using List.find?_some h
  · intro h
    cases hf : ofCode all code b with
    | none =>
      have := List.find?_eq_none.1 hf v hv
      simp [h] at this
    | some w =>
      have h1 : code w = b.toNat := by simpa using List.find?_some hf
      rw [inj w (List.mem_of_find?_eq_some hf) v hv (h1.trans h.symm)]

theorem ofCode_eq_none {α : Type} {all : List α} {code : α → Nat} {b : Byte} :
    ofCode all code b = none ↔ ∀ v ∈ all, code v ≠ b.toNat := by
  simp [ofCode]

@[simp] theorem sleepActionOf_byte (a : SleepAction) : sleepActionOf (byte a.code) = some a := by cases a <;> rfl

@[simp] theorem leaseModeOf_byte (m : LeaseMode) : leaseModeOf (byte m.code) = some m := by cases m <;> rfl

@[simp] theorem sleepDepthOf_byte (d : SleepDepth) : sleepDepthOf (byte d.code) = some d := by cases d <;> rfl

@[simp] theorem groupAsleepOf_byte (g : GroupAsleep) : groupAsleepOf (byte g.code) = some g := by cases g <;> rfl

@[simp] theorem tickPeriodOf_byte (t : TickPeriod) : tickPeriodOf (byte t.code) = some t := by cases t <;> rfl

@[simp] theorem boolOf_byte (b : Bool) : boolOf (byte (boolCode b)) = some b := by cases b <;> rfl

@[simp] theorem hostOf_byte (h : HostId) : hostOf (byte h.toNat) = some h := by cases h <;> rfl

theorem sleepActionOf_none {b : Byte} : sleepActionOf b = none ↔ 2 < b.toNat := by
  simp [sleepActionOf, ofCode_eq_none, SleepAction.all, SleepAction.code]; omega

theorem leaseModeOf_none {b : Byte} : leaseModeOf b = none ↔ 2 < b.toNat := by
  simp [leaseModeOf, ofCode_eq_none, LeaseMode.all, LeaseMode.code]; omega

theorem sleepDepthOf_none {b : Byte} : sleepDepthOf b = none ↔ 1 < b.toNat := by
  simp [sleepDepthOf, ofCode_eq_none, SleepDepth.all, SleepDepth.code]; omega

theorem groupAsleepOf_none {b : Byte} : groupAsleepOf b = none ↔ 1 < b.toNat := by
  simp [groupAsleepOf, ofCode_eq_none, GroupAsleep.all, GroupAsleep.code]; omega

theorem tickPeriodOf_none {b : Byte} : tickPeriodOf b = none ↔ 3 < b.toNat := by
  simp [tickPeriodOf, ofCode_eq_none, TickPeriod.all, TickPeriod.code]; omega

theorem boolOf_none {b : Byte} : boolOf b = none ↔ 1 < b.toNat := by
  simp [boolOf, ofCode_eq_none, boolCode]; omega

theorem hostOf_none {b : Byte} : hostOf b = none ↔ 3 < b.toNat := by
  simp [hostOf, ofCode_eq_none, HostId.all, HostId.toNat]; omega

/-! ### Numbers with a range, indices and handles -/

theorem byte_toNat {n : Nat} (h : n < 256) : (byte n).toNat = n := by simp [byte, Nat.mod_eq_of_lt h]

@[simp] theorem byte_toNat_self (b : Byte) : byte b.toNat = b := by simp [byte]

@[simp] theorem indexOf_byte (i : Index) : indexOf (byte i.val) = some i := by
  have h : (byte i.val).toNat = i.val := byte_toNat (by have := i.isLt; unfold Config.tableSize at this; omega)
  simp [indexOf, h]

theorem indexOf_none {b : Byte} : indexOf b = none ↔ 63 < b.toNat := by
  unfold indexOf Config.tableSize
  split <;> simp <;> omega

theorem indexOf_some {b : Byte} {i : Index} : indexOf b = some i ↔ b = byte i.val := by
  constructor
  · intro h
    unfold indexOf at h
    split at h <;> simp at h
    subst h; simp
  · rintro rfl; simp

theorem handleOf_none {w : Word16} : handleOf w = none ↔ 127 < w.toNat := by
  unfold handleOf Config.recordCount
  split <;> simp <;> omega

theorem handleOf_some {w : Word16} {r : Handle} : handleOf w = some r ↔ w.toNat = r.val := by
  unfold handleOf
  split
  · simp [Fin.ext_iff]
  · simp; omega

theorem rangeOf_some {lo hi n : Nat} {b : Byte} : rangeOf lo hi b = some n ↔ b.toNat = n ∧ lo ≤ n ∧ n ≤ hi := by
  unfold rangeOf
  split <;> simp <;> omega

theorem rangeOf_none {lo hi : Nat} {b : Byte} : rangeOf lo hi b = none ↔ b.toNat < lo ∨ hi < b.toNat := by
  unfold rangeOf
  split <;> simp <;> omega

theorem range16Of_some {lo hi n : Nat} {w : Word16} : range16Of lo hi w = some n ↔ w.toNat = n ∧ lo ≤ n ∧ n ≤ hi := by
  unfold range16Of
  split <;> simp <;> omega

theorem range16Of_none {lo hi : Nat} {w : Word16} : range16Of lo hi w = none ↔ w.toNat < lo ∨ hi < w.toNat := by
  unfold range16Of
  split <;> simp <;> omega

/-! ### Entries by reference (R10) -/

theorem Entry.isFree_iff (e : Entry) : e.isFree = true ↔ e.use = .free := by
  unfold Entry.isFree; split <;> simp_all

theorem State.ownClaim_some {s : State} {h : HostId} {i : Index} {g : Word16} {c : Claim} :
    s.ownClaim h i g = some c ↔ s.Holds h i g c := by
  have hm : s.Holds h i g c ↔ (s.entry i).generation = g ∧ (s.entry i).use = .unicast c ∧ c.owner = h :=
    ⟨fun x => ⟨x.1, x.2, x.3⟩, fun x => ⟨x.1, x.2.1, x.2.2⟩⟩
  rw [hm]
  unfold State.ownClaim State.current Entry.isFree Entry.claim?
  rcases s.entry i with ⟨gen, use⟩
  cases use <;> simp [Option.filter]
  grind

theorem State.ownClaim_none {s : State} {h : HostId} {i : Index} {g : Word16} :
    s.ownClaim h i g = none ↔ ¬ ∃ c, s.Holds h i g c := by
  rw [Option.eq_none_iff_forall_ne_some]
  simp [State.ownClaim_some]

/-! ### Searches (R3, R8, R11, R12) -/

theorem Index.mem_all (i : Index) : i ∈ Index.all := by simp [Index.all]

theorem State.lowestFree_none {s : State} : s.lowestFree = none ↔ ∀ i : Index, (s.entry i).use ≠ .free := by
  simp [State.lowestFree, Index.mem_all, ← Entry.isFree_iff]

theorem State.lowestFree_some {s : State} {i : Index} : s.lowestFree = some i ↔ s.FirstFree i := by
  have hf : s.FirstFree i ↔ (s.entry i).use = .free ∧ ∀ j : Index, j < i → (s.entry j).use ≠ .free :=
    ⟨fun x => ⟨x.1, x.2⟩, fun x => ⟨x.1, x.2⟩⟩
  rw [hf, State.lowestFree, List.find?_eq_some_iff_getElem, Entry.isFree_iff]
  refine and_congr_right fun _ => ⟨?_, fun h => ⟨i.val, by simp [Index.all], by simp [Index.all], ?_⟩⟩
  · rintro ⟨n, hn, hi, h⟩ j hj hu
    have hn' : i.val = n := by simp [← hi, Index.all]
    have := h j.val (by rw [← hn']; exact hj)
    simp [Index.all, (Entry.isFree_iff _).2 hu] at this
  · intro j hj
    have := h ⟨j, by omega⟩ hj
    simp [Index.all, ← Entry.isFree_iff] at this ⊢
    exact this

theorem State.holder_none {s : State} {a : Address} :
    s.holder a = none ↔ ∀ i : Index, (s.entry i).address? ≠ some a := by
  simp [State.holder, Index.mem_all]

/-- The entry that holds an address is the only one (R3). -/
theorem State.holder_some {s : State} (law : s.TableLaw) {a : Address} {i : Index} :
    s.holder a = some i ↔ (s.entry i).address? = some a := by
  constructor
  · intro h
    simpa using List.find?_some h
  · intro h
    cases hf : s.holder a with
    | none => exact absurd h (State.holder_none.1 hf i)
    | some j =>
      have hj : (s.entry j).address? = some a := by simpa using List.find?_some hf
      rw [law.unique i j (by simp [h]) (h.trans hj.symm)]

theorem State.claimAt_some {s : State} (law : s.TableLaw) {a : Address} {i : Index} {c : Claim} :
    s.claimAt a = some (i, c) ↔ (s.entry i).use = .unicast c ∧ c.address = a := by
  unfold State.claimAt
  constructor
  · intro h
    split at h
    · rename_i j hj
      have ha := (State.holder_some law).1 hj
      cases hu : (s.entry j).use <;> simp [Entry.claim?, Entry.address?, hu] at h ha
      obtain ⟨rfl, rfl⟩ := h
      exact ⟨hu, ha⟩
    · simp at h
  · rintro ⟨hu, rfl⟩
    rw [(State.holder_some law).2 (show (s.entry i).address? = some c.address by simp [Entry.address?, hu])]
    simp [Entry.claim?, hu]

theorem State.claimAt_none {s : State} (law : s.TableLaw) {a : Address} :
    s.claimAt a = none ↔ ∀ (i : Index) (c : Claim), (s.entry i).use = .unicast c → c.address ≠ a := by
  rw [Option.eq_none_iff_forall_ne_some]
  simp only [Prod.forall, ne_eq, State.claimAt_some law, not_and]

theorem State.groupAt_some {s : State} (law : s.TableLaw) {a : Address} {i : Index} {g : Group} :
    s.groupAt a = some (i, g) ↔ (s.entry i).use = .group g ∧ g.address = a := by
  unfold State.groupAt
  constructor
  · intro h
    split at h
    · rename_i j hj
      have ha := (State.holder_some law).1 hj
      cases hu : (s.entry j).use <;> simp [Entry.group?, Entry.address?, hu] at h ha
      obtain ⟨rfl, rfl⟩ := h
      exact ⟨hu, ha⟩
    · simp at h
  · rintro ⟨hu, rfl⟩
    rw [(State.holder_some law).2 (show (s.entry i).address? = some g.address by simp [Entry.address?, hu])]
    simp [Entry.group?, hu]

theorem State.groupAt_none {s : State} (law : s.TableLaw) {a : Address} :
    s.groupAt a = none ↔ ∀ (i : Index) (g : Group), (s.entry i).use = .group g → g.address ≠ a := by
  rw [Option.eq_none_iff_forall_ne_some]
  simp only [Prod.forall, ne_eq, State.groupAt_some law, not_and]

theorem Claim.bound_eq (c : Claim) : c.bound = !c.state.staged := by
  cases h : c.state <;> simp [Claim.bound, ClaimState.staged, h]

theorem State.boundAt_some {s : State} (law : s.TableLaw) {a : Address} {i : Index} {c : Claim} :
    s.boundAt a = some (i, c) ↔ (s.entry i).use = .unicast c ∧ c.address = a ∧ c.state.staged = false := by
  rw [State.boundAt, Option.filter_eq_some_iff, State.claimAt_some law]
  simp [Claim.bound_eq, and_assoc]

theorem State.boundAt_none {s : State} (law : s.TableLaw) {a : Address} :
    s.boundAt a = none ↔
      ∀ (i : Index) (c : Claim), (s.entry i).use = .unicast c → c.address = a → c.state.staged = true := by
  rw [Option.eq_none_iff_forall_ne_some]
  simp only [Prod.forall, ne_eq, State.boundAt_some law, not_and, Bool.not_eq_false]

theorem State.holding_some {s : State} (law : s.TableLaw) {h : HostId} {a : Address} {i : Index} {c : Claim} :
    s.holding h a = some (i, c) ↔
      (s.entry i).use = .unicast c ∧ c.address = a ∧ c.owner = h ∧ c.state.staged = false := by
  rw [State.holding, Option.filter_eq_some_iff, State.boundAt_some law]
  simp; tauto

end Sys2Proof.Machine
end

