-- ==== Sys2Proof/Laws/Ops.lean ====
section
/-! SUPPORT. What each shared operation can do, said once: the fields of the state it leaves alone, and what it does to
those it changes. -/

namespace Sys2Proof.Machine

/-! ### `notify`: the fields it leaves alone -/

@[simp] theorem State.notify_resetting (s : State) (h : HostId) (r : Report) : (s.notify h r).resetting = s.resetting := by
  unfold State.notify; split <;> rfl

@[simp] theorem State.notify_resetCause (s : State) (h : HostId) (r : Report) : (s.notify h r).resetCause = s.resetCause := by
  unfold State.notify; split <;> rfl

@[simp] theorem State.notify_table (s : State) (h : HostId) (r : Report) : (s.notify h r).table = s.table := by
  unfold State.notify; split <;> rfl

@[simp] theorem State.notify_tick (s : State) (h : HostId) (r : Report) : (s.notify h r).tick = s.tick := by
  unfold State.notify; split <;> rfl

@[simp] theorem State.notify_pool (s : State) (h : HostId) (r : Report) : (s.notify h r).pool = s.pool := by
  unfold State.notify; split <;> rfl

@[simp] theorem State.notify_line (s : State) (h : HostId) (r : Report) : (s.notify h r).line = s.line := by
  unfold State.notify; split <;> rfl

@[simp] theorem State.notify_arbiter (s : State) (h : HostId) (r : Report) : (s.notify h r).arbiter = s.arbiter := by
  unfold State.notify; split <;> rfl

@[simp] theorem State.notify_accord (s : State) (h : HostId) (r : Report) : (s.notify h r).accord = s.accord := by
  unfold State.notify; split <;> rfl

@[simp] theorem State.notify_ports (s : State) (h : HostId) (r : Report) : (s.notify h r).ports = s.ports := by
  unfold State.notify; split <;> rfl

@[simp] theorem State.notify_pending (s : State) (h : HostId) (r : Report) : (s.notify h r).pending = s.pending := by
  unfold State.notify; split <;> rfl

/-! ### `notifyAll`: the fields it leaves alone -/

@[simp] theorem State.notifyAll_resetting (s : State) (hs : List HostId) (r : Report) : (s.notifyAll hs r).resetting = s.resetting := by
  unfold State.notifyAll; induction hs generalizing s <;> simp_all

@[simp] theorem State.notifyAll_resetCause (s : State) (hs : List HostId) (r : Report) : (s.notifyAll hs r).resetCause = s.resetCause := by
  unfold State.notifyAll; induction hs generalizing s <;> simp_all

@[simp] theorem State.notifyAll_table (s : State) (hs : List HostId) (r : Report) : (s.notifyAll hs r).table = s.table := by
  unfold State.notifyAll; induction hs generalizing s <;> simp_all

@[simp] theorem State.notifyAll_tick (s : State) (hs : List HostId) (r : Report) : (s.notifyAll hs r).tick = s.tick := by
  unfold State.notifyAll; induction hs generalizing s <;> simp_all

@[simp] theorem State.notifyAll_pool (s : State) (hs : List HostId) (r : Report) : (s.notifyAll hs r).pool = s.pool := by
  unfold State.notifyAll; induction hs generalizing s <;> simp_all

@[simp] theorem State.notifyAll_line (s : State) (hs : List HostId) (r : Report) : (s.notifyAll hs r).line = s.line := by
  unfold State.notifyAll; induction hs generalizing s <;> simp_all

@[simp] theorem State.notifyAll_arbiter (s : State) (hs : List HostId) (r : Report) : (s.notifyAll hs r).arbiter = s.arbiter := by
  unfold State.notifyAll; induction hs generalizing s <;> simp_all

@[simp] theorem State.notifyAll_accord (s : State) (hs : List HostId) (r : Report) : (s.notifyAll hs r).accord = s.accord := by
  unfold State.notifyAll; induction hs generalizing s <;> simp_all

@[simp] theorem State.notifyAll_ports (s : State) (hs : List HostId) (r : Report) : (s.notifyAll hs r).ports = s.ports := by
  unfold State.notifyAll; induction hs generalizing s <;> simp_all

@[simp] theorem State.notifyAll_pending (s : State) (hs : List HostId) (r : Report) : (s.notifyAll hs r).pending = s.pending := by
  unfold State.notifyAll; induction hs generalizing s <;> simp_all

/-! ### `takeRef`: the fields it leaves alone -/

@[simp] theorem State.takeRef_resetting (s : State) (r : Handle) : (s.takeRef r).resetting = s.resetting := by
  unfold State.takeRef; split <;> rfl

@[simp] theorem State.takeRef_resetCause (s : State) (r : Handle) : (s.takeRef r).resetCause = s.resetCause := by
  unfold State.takeRef; split <;> rfl

@[simp] theorem State.takeRef_table (s : State) (r : Handle) : (s.takeRef r).table = s.table := by
  unfold State.takeRef; split <;> rfl

@[simp] theorem State.takeRef_tick (s : State) (r : Handle) : (s.takeRef r).tick = s.tick := by
  unfold State.takeRef; split <;> rfl

@[simp] theorem State.takeRef_line (s : State) (r : Handle) : (s.takeRef r).line = s.line := by
  unfold State.takeRef; split <;> rfl

@[simp] theorem State.takeRef_hosts (s : State) (r : Handle) : (s.takeRef r).hosts = s.hosts := by
  unfold State.takeRef; split <;> rfl

@[simp] theorem State.takeRef_arbiter (s : State) (r : Handle) : (s.takeRef r).arbiter = s.arbiter := by
  unfold State.takeRef; split <;> rfl

@[simp] theorem State.takeRef_accord (s : State) (r : Handle) : (s.takeRef r).accord = s.accord := by
  unfold State.takeRef; split <;> rfl

@[simp] theorem State.takeRef_ports (s : State) (r : Handle) : (s.takeRef r).ports = s.ports := by
  unfold State.takeRef; split <;> rfl

@[simp] theorem State.takeRef_pending (s : State) (r : Handle) : (s.takeRef r).pending = s.pending := by
  unfold State.takeRef; split <;> rfl

/-! ### `dropRef`: the fields it leaves alone -/

@[simp] theorem State.dropRef_resetting (s : State) (r : Handle) : (s.dropRef r).resetting = s.resetting := by
  unfold State.dropRef; split <;> [split; skip] <;> rfl

@[simp] theorem State.dropRef_resetCause (s : State) (r : Handle) : (s.dropRef r).resetCause = s.resetCause := by
  unfold State.dropRef; split <;> [split; skip] <;> rfl

@[simp] theorem State.dropRef_table (s : State) (r : Handle) : (s.dropRef r).table = s.table := by
  unfold State.dropRef; split <;> [split; skip] <;> rfl

@[simp] theorem State.dropRef_tick (s : State) (r : Handle) : (s.dropRef r).tick = s.tick := by
  unfold State.dropRef; split <;> [split; skip] <;> rfl

@[simp] theorem State.dropRef_line (s : State) (r : Handle) : (s.dropRef r).line = s.line := by
  unfold State.dropRef; split <;> [split; skip] <;> rfl

@[simp] theorem State.dropRef_hosts (s : State) (r : Handle) : (s.dropRef r).hosts = s.hosts := by
  unfold State.dropRef; split <;> [split; skip] <;> rfl

@[simp] theorem State.dropRef_arbiter (s : State) (r : Handle) : (s.dropRef r).arbiter = s.arbiter := by
  unfold State.dropRef; split <;> [split; skip] <;> rfl

@[simp] theorem State.dropRef_accord (s : State) (r : Handle) : (s.dropRef r).accord = s.accord := by
  unfold State.dropRef; split <;> [split; skip] <;> rfl

@[simp] theorem State.dropRef_ports (s : State) (r : Handle) : (s.dropRef r).ports = s.ports := by
  unfold State.dropRef; split <;> [split; skip] <;> rfl

@[simp] theorem State.dropRef_pending (s : State) (r : Handle) : (s.dropRef r).pending = s.pending := by
  unfold State.dropRef; split <;> [split; skip] <;> rfl

/-! ### `dropRefs`: the fields it leaves alone -/

@[simp] theorem State.dropRefs_resetting (s : State) (rs : List Handle) : (s.dropRefs rs).resetting = s.resetting := by
  unfold State.dropRefs; induction rs generalizing s <;> simp_all

@[simp] theorem State.dropRefs_resetCause (s : State) (rs : List Handle) : (s.dropRefs rs).resetCause = s.resetCause := by
  unfold State.dropRefs; induction rs generalizing s <;> simp_all

@[simp] theorem State.dropRefs_table (s : State) (rs : List Handle) : (s.dropRefs rs).table = s.table := by
  unfold State.dropRefs; induction rs generalizing s <;> simp_all

@[simp] theorem State.dropRefs_tick (s : State) (rs : List Handle) : (s.dropRefs rs).tick = s.tick := by
  unfold State.dropRefs; induction rs generalizing s <;> simp_all

@[simp] theorem State.dropRefs_line (s : State) (rs : List Handle) : (s.dropRefs rs).line = s.line := by
  unfold State.dropRefs; induction rs generalizing s <;> simp_all

@[simp] theorem State.dropRefs_hosts (s : State) (rs : List Handle) : (s.dropRefs rs).hosts = s.hosts := by
  unfold State.dropRefs; induction rs generalizing s <;> simp_all

@[simp] theorem State.dropRefs_arbiter (s : State) (rs : List Handle) : (s.dropRefs rs).arbiter = s.arbiter := by
  unfold State.dropRefs; induction rs generalizing s <;> simp_all

@[simp] theorem State.dropRefs_accord (s : State) (rs : List Handle) : (s.dropRefs rs).accord = s.accord := by
  unfold State.dropRefs; induction rs generalizing s <;> simp_all

@[simp] theorem State.dropRefs_ports (s : State) (rs : List Handle) : (s.dropRefs rs).ports = s.ports := by
  unfold State.dropRefs; induction rs generalizing s <;> simp_all

@[simp] theorem State.dropRefs_pending (s : State) (rs : List Handle) : (s.dropRefs rs).pending = s.pending := by
  unfold State.dropRefs; induction rs generalizing s <;> simp_all

/-! ### `setClass`: the fields it leaves alone -/

@[simp] theorem State.setClass_resetting (s : State) (r : Handle) (c : FrameClass) (m : Option EntryRef) : (s.setClass r c m).resetting = s.resetting := by
  unfold State.setClass; split <;> rfl

@[simp] theorem State.setClass_resetCause (s : State) (r : Handle) (c : FrameClass) (m : Option EntryRef) : (s.setClass r c m).resetCause = s.resetCause := by
  unfold State.setClass; split <;> rfl

@[simp] theorem State.setClass_table (s : State) (r : Handle) (c : FrameClass) (m : Option EntryRef) : (s.setClass r c m).table = s.table := by
  unfold State.setClass; split <;> rfl

@[simp] theorem State.setClass_tick (s : State) (r : Handle) (c : FrameClass) (m : Option EntryRef) : (s.setClass r c m).tick = s.tick := by
  unfold State.setClass; split <;> rfl

@[simp] theorem State.setClass_line (s : State) (r : Handle) (c : FrameClass) (m : Option EntryRef) : (s.setClass r c m).line = s.line := by
  unfold State.setClass; split <;> rfl

@[simp] theorem State.setClass_hosts (s : State) (r : Handle) (c : FrameClass) (m : Option EntryRef) : (s.setClass r c m).hosts = s.hosts := by
  unfold State.setClass; split <;> rfl

@[simp] theorem State.setClass_arbiter (s : State) (r : Handle) (c : FrameClass) (m : Option EntryRef) : (s.setClass r c m).arbiter = s.arbiter := by
  unfold State.setClass; split <;> rfl

@[simp] theorem State.setClass_accord (s : State) (r : Handle) (c : FrameClass) (m : Option EntryRef) : (s.setClass r c m).accord = s.accord := by
  unfold State.setClass; split <;> rfl

@[simp] theorem State.setClass_ports (s : State) (r : Handle) (c : FrameClass) (m : Option EntryRef) : (s.setClass r c m).ports = s.ports := by
  unfold State.setClass; split <;> rfl

@[simp] theorem State.setClass_pending (s : State) (r : Handle) (c : FrameClass) (m : Option EntryRef) : (s.setClass r c m).pending = s.pending := by
  unfold State.setClass; split <;> rfl

/-! ### `notifyOffer`: the fields it leaves alone -/

@[simp] theorem State.notifyOffer_resetting (s : State) (h k : HostId) (i : Index) (x : OfferOutcome) : (s.notifyOffer h k i x).resetting = s.resetting := by
  simp [State.notifyOffer]

@[simp] theorem State.notifyOffer_resetCause (s : State) (h k : HostId) (i : Index) (x : OfferOutcome) : (s.notifyOffer h k i x).resetCause = s.resetCause := by
  simp [State.notifyOffer]

@[simp] theorem State.notifyOffer_table (s : State) (h k : HostId) (i : Index) (x : OfferOutcome) : (s.notifyOffer h k i x).table = s.table := by
  simp [State.notifyOffer]

@[simp] theorem State.notifyOffer_tick (s : State) (h k : HostId) (i : Index) (x : OfferOutcome) : (s.notifyOffer h k i x).tick = s.tick := by
  simp [State.notifyOffer]

@[simp] theorem State.notifyOffer_pool (s : State) (h k : HostId) (i : Index) (x : OfferOutcome) : (s.notifyOffer h k i x).pool = s.pool := by
  simp [State.notifyOffer]

@[simp] theorem State.notifyOffer_line (s : State) (h k : HostId) (i : Index) (x : OfferOutcome) : (s.notifyOffer h k i x).line = s.line := by
  simp [State.notifyOffer]

@[simp] theorem State.notifyOffer_arbiter (s : State) (h k : HostId) (i : Index) (x : OfferOutcome) : (s.notifyOffer h k i x).arbiter = s.arbiter := by
  simp [State.notifyOffer]

@[simp] theorem State.notifyOffer_accord (s : State) (h k : HostId) (i : Index) (x : OfferOutcome) : (s.notifyOffer h k i x).accord = s.accord := by
  simp [State.notifyOffer]

@[simp] theorem State.notifyOffer_ports (s : State) (h k : HostId) (i : Index) (x : OfferOutcome) : (s.notifyOffer h k i x).ports = s.ports := by
  simp [State.notifyOffer]

@[simp] theorem State.notifyOffer_pending (s : State) (h k : HostId) (i : Index) (x : OfferOutcome) : (s.notifyOffer h k i x).pending = s.pending := by
  simp [State.notifyOffer]

/-! ### `endClaim`: the fields it leaves alone -/

@[simp] theorem State.endClaim_resetting (s : State) (i : Index) (c : Claim) : (s.endClaim i c).resetting = s.resetting := by
  unfold State.endClaim; split <;> simp

@[simp] theorem State.endClaim_resetCause (s : State) (i : Index) (c : Claim) : (s.endClaim i c).resetCause = s.resetCause := by
  unfold State.endClaim; split <;> simp

@[simp] theorem State.endClaim_tick (s : State) (i : Index) (c : Claim) : (s.endClaim i c).tick = s.tick := by
  unfold State.endClaim; split <;> simp

@[simp] theorem State.endClaim_pool (s : State) (i : Index) (c : Claim) : (s.endClaim i c).pool = s.pool := by
  unfold State.endClaim; split <;> simp

@[simp] theorem State.endClaim_line (s : State) (i : Index) (c : Claim) : (s.endClaim i c).line = s.line := by
  unfold State.endClaim; split <;> simp

@[simp] theorem State.endClaim_arbiter (s : State) (i : Index) (c : Claim) : (s.endClaim i c).arbiter = s.arbiter := by
  unfold State.endClaim; split <;> simp

@[simp] theorem State.endClaim_accord (s : State) (i : Index) (c : Claim) : (s.endClaim i c).accord = s.accord := by
  unfold State.endClaim; split <;> simp

@[simp] theorem State.endClaim_ports (s : State) (i : Index) (c : Claim) : (s.endClaim i c).ports = s.ports := by
  unfold State.endClaim; split <;> simp

@[simp] theorem State.endClaim_pending (s : State) (i : Index) (c : Claim) : (s.endClaim i c).pending = s.pending := by
  unfold State.endClaim; split <;> simp

/-! ### `removeMember`: the fields it leaves alone -/

@[simp] theorem State.removeMember_resetting (s : State) (i : Index) (g : Group) (h : HostId) : (s.removeMember i g h).resetting = s.resetting := by
  unfold State.removeMember; dsimp only; split <;> simp

@[simp] theorem State.removeMember_resetCause (s : State) (i : Index) (g : Group) (h : HostId) : (s.removeMember i g h).resetCause = s.resetCause := by
  unfold State.removeMember; dsimp only; split <;> simp

@[simp] theorem State.removeMember_tick (s : State) (i : Index) (g : Group) (h : HostId) : (s.removeMember i g h).tick = s.tick := by
  unfold State.removeMember; dsimp only; split <;> simp

@[simp] theorem State.removeMember_pool (s : State) (i : Index) (g : Group) (h : HostId) : (s.removeMember i g h).pool = s.pool := by
  unfold State.removeMember; dsimp only; split <;> simp

@[simp] theorem State.removeMember_line (s : State) (i : Index) (g : Group) (h : HostId) : (s.removeMember i g h).line = s.line := by
  unfold State.removeMember; dsimp only; split <;> simp

@[simp] theorem State.removeMember_hosts (s : State) (i : Index) (g : Group) (h : HostId) : (s.removeMember i g h).hosts = s.hosts := by
  unfold State.removeMember; dsimp only; split <;> simp

@[simp] theorem State.removeMember_arbiter (s : State) (i : Index) (g : Group) (h : HostId) : (s.removeMember i g h).arbiter = s.arbiter := by
  unfold State.removeMember; dsimp only; split <;> simp

@[simp] theorem State.removeMember_accord (s : State) (i : Index) (g : Group) (h : HostId) : (s.removeMember i g h).accord = s.accord := by
  unfold State.removeMember; dsimp only; split <;> simp

@[simp] theorem State.removeMember_ports (s : State) (i : Index) (g : Group) (h : HostId) : (s.removeMember i g h).ports = s.ports := by
  unfold State.removeMember; dsimp only; split <;> simp

@[simp] theorem State.removeMember_pending (s : State) (i : Index) (g : Group) (h : HostId) : (s.removeMember i g h).pending = s.pending := by
  unfold State.removeMember; dsimp only; split <;> simp

/-! ### `raiseHits`: the fields it leaves alone -/

@[simp] theorem State.raiseHits_resetting (s : State) (i : Index) : (s.raiseHits i).resetting = s.resetting := by
  unfold State.raiseHits; split <;> simp

@[simp] theorem State.raiseHits_resetCause (s : State) (i : Index) : (s.raiseHits i).resetCause = s.resetCause := by
  unfold State.raiseHits; split <;> simp

@[simp] theorem State.raiseHits_tick (s : State) (i : Index) : (s.raiseHits i).tick = s.tick := by
  unfold State.raiseHits; split <;> simp

@[simp] theorem State.raiseHits_pool (s : State) (i : Index) : (s.raiseHits i).pool = s.pool := by
  unfold State.raiseHits; split <;> simp

@[simp] theorem State.raiseHits_line (s : State) (i : Index) : (s.raiseHits i).line = s.line := by
  unfold State.raiseHits; split <;> simp

@[simp] theorem State.raiseHits_hosts (s : State) (i : Index) : (s.raiseHits i).hosts = s.hosts := by
  unfold State.raiseHits; split <;> simp

@[simp] theorem State.raiseHits_arbiter (s : State) (i : Index) : (s.raiseHits i).arbiter = s.arbiter := by
  unfold State.raiseHits; split <;> simp

@[simp] theorem State.raiseHits_accord (s : State) (i : Index) : (s.raiseHits i).accord = s.accord := by
  unfold State.raiseHits; split <;> simp

@[simp] theorem State.raiseHits_ports (s : State) (i : Index) : (s.raiseHits i).ports = s.ports := by
  unfold State.raiseHits; split <;> simp

@[simp] theorem State.raiseHits_pending (s : State) (i : Index) : (s.raiseHits i).pending = s.pending := by
  unfold State.raiseHits; split <;> simp

/-! ### `markActivity`: the fields it leaves alone -/

@[simp] theorem State.markActivity_resetting (s : State) (i : Index) : (s.markActivity i).resetting = s.resetting := by
  unfold State.markActivity; split <;> [split; skip] <;> simp

@[simp] theorem State.markActivity_resetCause (s : State) (i : Index) : (s.markActivity i).resetCause = s.resetCause := by
  unfold State.markActivity; split <;> [split; skip] <;> simp

@[simp] theorem State.markActivity_tick (s : State) (i : Index) : (s.markActivity i).tick = s.tick := by
  unfold State.markActivity; split <;> [split; skip] <;> simp

@[simp] theorem State.markActivity_pool (s : State) (i : Index) : (s.markActivity i).pool = s.pool := by
  unfold State.markActivity; split <;> [split; skip] <;> simp

@[simp] theorem State.markActivity_line (s : State) (i : Index) : (s.markActivity i).line = s.line := by
  unfold State.markActivity; split <;> [split; skip] <;> simp

@[simp] theorem State.markActivity_hosts (s : State) (i : Index) : (s.markActivity i).hosts = s.hosts := by
  unfold State.markActivity; split <;> [split; skip] <;> simp

@[simp] theorem State.markActivity_arbiter (s : State) (i : Index) : (s.markActivity i).arbiter = s.arbiter := by
  unfold State.markActivity; split <;> [split; skip] <;> simp

@[simp] theorem State.markActivity_accord (s : State) (i : Index) : (s.markActivity i).accord = s.accord := by
  unfold State.markActivity; split <;> [split; skip] <;> simp

@[simp] theorem State.markActivity_ports (s : State) (i : Index) : (s.markActivity i).ports = s.ports := by
  unfold State.markActivity; split <;> [split; skip] <;> simp

@[simp] theorem State.markActivity_pending (s : State) (i : Index) : (s.markActivity i).pending = s.pending := by
  unfold State.markActivity; split <;> [split; skip] <;> simp

/-! ### `observeSource`: the fields it leaves alone -/

@[simp] theorem State.observeSource_resetting (s : State) (a : Address) : (s.observeSource a).resetting = s.resetting := by
  unfold State.observeSource; split <;> [skip; split] <;> simp

@[simp] theorem State.observeSource_resetCause (s : State) (a : Address) : (s.observeSource a).resetCause = s.resetCause := by
  unfold State.observeSource; split <;> [skip; split] <;> simp

@[simp] theorem State.observeSource_tick (s : State) (a : Address) : (s.observeSource a).tick = s.tick := by
  unfold State.observeSource; split <;> [skip; split] <;> simp

@[simp] theorem State.observeSource_pool (s : State) (a : Address) : (s.observeSource a).pool = s.pool := by
  unfold State.observeSource; split <;> [skip; split] <;> simp

@[simp] theorem State.observeSource_line (s : State) (a : Address) : (s.observeSource a).line = s.line := by
  unfold State.observeSource; split <;> [skip; split] <;> simp

@[simp] theorem State.observeSource_arbiter (s : State) (a : Address) : (s.observeSource a).arbiter = s.arbiter := by
  unfold State.observeSource; split <;> [skip; split] <;> simp

@[simp] theorem State.observeSource_accord (s : State) (a : Address) : (s.observeSource a).accord = s.accord := by
  unfold State.observeSource; split <;> [skip; split] <;> simp

@[simp] theorem State.observeSource_ports (s : State) (a : Address) : (s.observeSource a).ports = s.ports := by
  unfold State.observeSource; split <;> [skip; split] <;> simp

@[simp] theorem State.observeSource_pending (s : State) (a : Address) : (s.observeSource a).pending = s.pending := by
  unfold State.observeSource; split <;> [skip; split] <;> simp

/-! ### `markMatch`: the fields it leaves alone -/

@[simp] theorem State.markMatch_resetting (s : State) (r : Handle) (c : FrameClass) (m : Option Index) (ts : List HostId) : (s.markMatch r c m ts).resetting = s.resetting := by
  unfold State.markMatch; dsimp only; split <;> split <;> simp

@[simp] theorem State.markMatch_resetCause (s : State) (r : Handle) (c : FrameClass) (m : Option Index) (ts : List HostId) : (s.markMatch r c m ts).resetCause = s.resetCause := by
  unfold State.markMatch; dsimp only; split <;> split <;> simp

@[simp] theorem State.markMatch_tick (s : State) (r : Handle) (c : FrameClass) (m : Option Index) (ts : List HostId) : (s.markMatch r c m ts).tick = s.tick := by
  unfold State.markMatch; dsimp only; split <;> split <;> simp

@[simp] theorem State.markMatch_line (s : State) (r : Handle) (c : FrameClass) (m : Option Index) (ts : List HostId) : (s.markMatch r c m ts).line = s.line := by
  unfold State.markMatch; dsimp only; split <;> split <;> simp

@[simp] theorem State.markMatch_hosts (s : State) (r : Handle) (c : FrameClass) (m : Option Index) (ts : List HostId) : (s.markMatch r c m ts).hosts = s.hosts := by
  unfold State.markMatch; dsimp only; split <;> split <;> simp

@[simp] theorem State.markMatch_arbiter (s : State) (r : Handle) (c : FrameClass) (m : Option Index) (ts : List HostId) : (s.markMatch r c m ts).arbiter = s.arbiter := by
  unfold State.markMatch; dsimp only; split <;> split <;> simp

@[simp] theorem State.markMatch_accord (s : State) (r : Handle) (c : FrameClass) (m : Option Index) (ts : List HostId) : (s.markMatch r c m ts).accord = s.accord := by
  unfold State.markMatch; dsimp only; split <;> split <;> simp

@[simp] theorem State.markMatch_ports (s : State) (r : Handle) (c : FrameClass) (m : Option Index) (ts : List HostId) : (s.markMatch r c m ts).ports = s.ports := by
  unfold State.markMatch; dsimp only; split <;> split <;> simp

@[simp] theorem State.markMatch_pending (s : State) (r : Handle) (c : FrameClass) (m : Option Index) (ts : List HostId) : (s.markMatch r c m ts).pending = s.pending := by
  unfold State.markMatch; dsimp only; split <;> split <;> simp

/-! ### Deliveries -/

/-- The deliveries of a frame to some hosts and then one more. -/
theorem State.deliverAll_snoc (s : State) (hs : List HostId) (h : HostId) (d : Delivery) :
    s.deliverAll (hs ++ [h]) d =
      (((s.deliverAll hs d).1.deliver h d).1,
        if ((s.deliverAll hs d).1.deliver h d).2 then (s.deliverAll hs d).2 + 1 else (s.deliverAll hs d).2) := by
  unfold State.deliverAll
  rw [List.foldl_append]
  rfl

@[simp] theorem State.deliver_resetting (s : State) (h : HostId) (d : Delivery) : (s.deliver h d).1.resetting = s.resetting := by
  unfold State.deliver; split <;> [(dsimp only; split); skip] <;> simp

@[simp] theorem State.deliver_resetCause (s : State) (h : HostId) (d : Delivery) : (s.deliver h d).1.resetCause = s.resetCause := by
  unfold State.deliver; split <;> [(dsimp only; split); skip] <;> simp

@[simp] theorem State.deliver_table (s : State) (h : HostId) (d : Delivery) : (s.deliver h d).1.table = s.table := by
  unfold State.deliver; split <;> [(dsimp only; split); skip] <;> simp

@[simp] theorem State.deliver_tick (s : State) (h : HostId) (d : Delivery) : (s.deliver h d).1.tick = s.tick := by
  unfold State.deliver; split <;> [(dsimp only; split); skip] <;> simp

@[simp] theorem State.deliver_line (s : State) (h : HostId) (d : Delivery) : (s.deliver h d).1.line = s.line := by
  unfold State.deliver; split <;> [(dsimp only; split); skip] <;> simp

@[simp] theorem State.deliver_arbiter (s : State) (h : HostId) (d : Delivery) : (s.deliver h d).1.arbiter = s.arbiter := by
  unfold State.deliver; split <;> [(dsimp only; split); skip] <;> simp

@[simp] theorem State.deliver_accord (s : State) (h : HostId) (d : Delivery) : (s.deliver h d).1.accord = s.accord := by
  unfold State.deliver; split <;> [(dsimp only; split); skip] <;> simp

@[simp] theorem State.deliver_ports (s : State) (h : HostId) (d : Delivery) : (s.deliver h d).1.ports = s.ports := by
  unfold State.deliver; split <;> [(dsimp only; split); skip] <;> simp

@[simp] theorem State.deliver_pending (s : State) (h : HostId) (d : Delivery) : (s.deliver h d).1.pending = s.pending := by
  unfold State.deliver; split <;> [(dsimp only; split); skip] <;> simp

@[simp] theorem State.deliverAll_resetting (s : State) (hs : List HostId) (d : Delivery) :
    (s.deliverAll hs d).1.resetting = s.resetting := by
  induction hs using List.reverseRecOn with
  | nil => rfl
  | append_singleton hs h ih => simp [State.deliverAll_snoc, ih]

@[simp] theorem State.deliverAll_resetCause (s : State) (hs : List HostId) (d : Delivery) :
    (s.deliverAll hs d).1.resetCause = s.resetCause := by
  induction hs using List.reverseRecOn with
  | nil => rfl
  | append_singleton hs h ih => simp [State.deliverAll_snoc, ih]

@[simp] theorem State.deliverAll_table (s : State) (hs : List HostId) (d : Delivery) :
    (s.deliverAll hs d).1.table = s.table := by
  induction hs using List.reverseRecOn with
  | nil => rfl
  | append_singleton hs h ih => simp [State.deliverAll_snoc, ih]

@[simp] theorem State.deliverAll_tick (s : State) (hs : List HostId) (d : Delivery) :
    (s.deliverAll hs d).1.tick = s.tick := by
  induction hs using List.reverseRecOn with
  | nil => rfl
  | append_singleton hs h ih => simp [State.deliverAll_snoc, ih]

@[simp] theorem State.deliverAll_line (s : State) (hs : List HostId) (d : Delivery) :
    (s.deliverAll hs d).1.line = s.line := by
  induction hs using List.reverseRecOn with
  | nil => rfl
  | append_singleton hs h ih => simp [State.deliverAll_snoc, ih]

@[simp] theorem State.deliverAll_arbiter (s : State) (hs : List HostId) (d : Delivery) :
    (s.deliverAll hs d).1.arbiter = s.arbiter := by
  induction hs using List.reverseRecOn with
  | nil => rfl
  | append_singleton hs h ih => simp [State.deliverAll_snoc, ih]

@[simp] theorem State.deliverAll_accord (s : State) (hs : List HostId) (d : Delivery) :
    (s.deliverAll hs d).1.accord = s.accord := by
  induction hs using List.reverseRecOn with
  | nil => rfl
  | append_singleton hs h ih => simp [State.deliverAll_snoc, ih]

@[simp] theorem State.deliverAll_ports (s : State) (hs : List HostId) (d : Delivery) :
    (s.deliverAll hs d).1.ports = s.ports := by
  induction hs using List.reverseRecOn with
  | nil => rfl
  | append_singleton hs h ih => simp [State.deliverAll_snoc, ih]

@[simp] theorem State.deliverAll_pending (s : State) (hs : List HostId) (d : Delivery) :
    (s.deliverAll hs d).1.pending = s.pending := by
  induction hs using List.reverseRecOn with
  | nil => rfl
  | append_singleton hs h ih => simp [State.deliverAll_snoc, ih]

/-! ### `storeFrame`: the fields it leaves alone -/

@[simp] theorem State.storeFrame_resetting (s : State) (h : HostId) (r : Handle) (rest : List Handle) (b : List Byte) : (s.storeFrame h r rest b).resetting = s.resetting := by
  rfl

@[simp] theorem State.storeFrame_resetCause (s : State) (h : HostId) (r : Handle) (rest : List Handle) (b : List Byte) : (s.storeFrame h r rest b).resetCause = s.resetCause := by
  rfl

@[simp] theorem State.storeFrame_table (s : State) (h : HostId) (r : Handle) (rest : List Handle) (b : List Byte) : (s.storeFrame h r rest b).table = s.table := by
  rfl

@[simp] theorem State.storeFrame_tick (s : State) (h : HostId) (r : Handle) (rest : List Handle) (b : List Byte) : (s.storeFrame h r rest b).tick = s.tick := by
  rfl

@[simp] theorem State.storeFrame_line (s : State) (h : HostId) (r : Handle) (rest : List Handle) (b : List Byte) : (s.storeFrame h r rest b).line = s.line := by
  rfl

@[simp] theorem State.storeFrame_hosts (s : State) (h : HostId) (r : Handle) (rest : List Handle) (b : List Byte) : (s.storeFrame h r rest b).hosts = s.hosts := by
  rfl

@[simp] theorem State.storeFrame_arbiter (s : State) (h : HostId) (r : Handle) (rest : List Handle) (b : List Byte) : (s.storeFrame h r rest b).arbiter = s.arbiter := by
  rfl

@[simp] theorem State.storeFrame_accord (s : State) (h : HostId) (r : Handle) (rest : List Handle) (b : List Byte) : (s.storeFrame h r rest b).accord = s.accord := by
  rfl

@[simp] theorem State.storeFrame_ports (s : State) (h : HostId) (r : Handle) (rest : List Handle) (b : List Byte) : (s.storeFrame h r rest b).ports = s.ports := by
  rfl

@[simp] theorem State.storeFrame_pending (s : State) (h : HostId) (r : Handle) (rest : List Handle) (b : List Byte) : (s.storeFrame h r rest b).pending = s.pending := by
  rfl

/-! ### `recordCompletion`: the fields it leaves alone -/

@[simp] theorem State.recordCompletion_resetting (s : State) (f : OnPath) (x : TxOutcome) : (s.recordCompletion f x).resetting = s.resetting := by
  unfold State.recordCompletion; split <;> rfl

@[simp] theorem State.recordCompletion_resetCause (s : State) (f : OnPath) (x : TxOutcome) : (s.recordCompletion f x).resetCause = s.resetCause := by
  unfold State.recordCompletion; split <;> rfl

@[simp] theorem State.recordCompletion_table (s : State) (f : OnPath) (x : TxOutcome) : (s.recordCompletion f x).table = s.table := by
  unfold State.recordCompletion; split <;> rfl

@[simp] theorem State.recordCompletion_tick (s : State) (f : OnPath) (x : TxOutcome) : (s.recordCompletion f x).tick = s.tick := by
  unfold State.recordCompletion; split <;> rfl

@[simp] theorem State.recordCompletion_pool (s : State) (f : OnPath) (x : TxOutcome) : (s.recordCompletion f x).pool = s.pool := by
  unfold State.recordCompletion; split <;> rfl

@[simp] theorem State.recordCompletion_line (s : State) (f : OnPath) (x : TxOutcome) : (s.recordCompletion f x).line = s.line := by
  unfold State.recordCompletion; split <;> rfl

@[simp] theorem State.recordCompletion_hosts (s : State) (f : OnPath) (x : TxOutcome) : (s.recordCompletion f x).hosts = s.hosts := by
  unfold State.recordCompletion; split <;> rfl

@[simp] theorem State.recordCompletion_accord (s : State) (f : OnPath) (x : TxOutcome) : (s.recordCompletion f x).accord = s.accord := by
  unfold State.recordCompletion; split <;> rfl

@[simp] theorem State.recordCompletion_ports (s : State) (f : OnPath) (x : TxOutcome) : (s.recordCompletion f x).ports = s.ports := by
  unfold State.recordCompletion; split <;> rfl

@[simp] theorem State.recordCompletion_pending (s : State) (f : OnPath) (x : TxOutcome) : (s.recordCompletion f x).pending = s.pending := by
  unfold State.recordCompletion; split <;> rfl

/-! ### `endHandling`: the fields it leaves alone -/

@[simp] theorem State.endHandling_resetting (s : State) (f : OnPath) (x : TxOutcome) : (s.endHandling f x).resetting = s.resetting := by
  simp [State.endHandling]

@[simp] theorem State.endHandling_resetCause (s : State) (f : OnPath) (x : TxOutcome) : (s.endHandling f x).resetCause = s.resetCause := by
  simp [State.endHandling]

@[simp] theorem State.endHandling_table (s : State) (f : OnPath) (x : TxOutcome) : (s.endHandling f x).table = s.table := by
  simp [State.endHandling]

@[simp] theorem State.endHandling_tick (s : State) (f : OnPath) (x : TxOutcome) : (s.endHandling f x).tick = s.tick := by
  simp [State.endHandling]

@[simp] theorem State.endHandling_line (s : State) (f : OnPath) (x : TxOutcome) : (s.endHandling f x).line = s.line := by
  simp [State.endHandling]

@[simp] theorem State.endHandling_hosts (s : State) (f : OnPath) (x : TxOutcome) : (s.endHandling f x).hosts = s.hosts := by
  simp [State.endHandling]

@[simp] theorem State.endHandling_accord (s : State) (f : OnPath) (x : TxOutcome) : (s.endHandling f x).accord = s.accord := by
  simp [State.endHandling]

@[simp] theorem State.endHandling_ports (s : State) (f : OnPath) (x : TxOutcome) : (s.endHandling f x).ports = s.ports := by
  simp [State.endHandling]

@[simp] theorem State.endHandling_pending (s : State) (f : OnPath) (x : TxOutcome) : (s.endHandling f x).pending = s.pending := by
  simp [State.endHandling]

/-! ### `notifyOutcome`: the fields it leaves alone -/

@[simp] theorem State.notifyOutcome_resetting (s : State) (p : Proposal) (x : AccordOutcome) (d : Option HostId) : (s.notifyOutcome p x d).resetting = s.resetting := by
  simp [State.notifyOutcome]

@[simp] theorem State.notifyOutcome_resetCause (s : State) (p : Proposal) (x : AccordOutcome) (d : Option HostId) : (s.notifyOutcome p x d).resetCause = s.resetCause := by
  simp [State.notifyOutcome]

@[simp] theorem State.notifyOutcome_table (s : State) (p : Proposal) (x : AccordOutcome) (d : Option HostId) : (s.notifyOutcome p x d).table = s.table := by
  simp [State.notifyOutcome]

@[simp] theorem State.notifyOutcome_tick (s : State) (p : Proposal) (x : AccordOutcome) (d : Option HostId) : (s.notifyOutcome p x d).tick = s.tick := by
  simp [State.notifyOutcome]

@[simp] theorem State.notifyOutcome_pool (s : State) (p : Proposal) (x : AccordOutcome) (d : Option HostId) : (s.notifyOutcome p x d).pool = s.pool := by
  simp [State.notifyOutcome]

@[simp] theorem State.notifyOutcome_line (s : State) (p : Proposal) (x : AccordOutcome) (d : Option HostId) : (s.notifyOutcome p x d).line = s.line := by
  simp [State.notifyOutcome]

@[simp] theorem State.notifyOutcome_arbiter (s : State) (p : Proposal) (x : AccordOutcome) (d : Option HostId) : (s.notifyOutcome p x d).arbiter = s.arbiter := by
  simp [State.notifyOutcome]

@[simp] theorem State.notifyOutcome_accord (s : State) (p : Proposal) (x : AccordOutcome) (d : Option HostId) : (s.notifyOutcome p x d).accord = s.accord := by
  simp [State.notifyOutcome]

@[simp] theorem State.notifyOutcome_ports (s : State) (p : Proposal) (x : AccordOutcome) (d : Option HostId) : (s.notifyOutcome p x d).ports = s.ports := by
  simp [State.notifyOutcome]

@[simp] theorem State.notifyOutcome_pending (s : State) (p : Proposal) (x : AccordOutcome) (d : Option HostId) : (s.notifyOutcome p x d).pending = s.pending := by
  simp [State.notifyOutcome]

/-! ### `endProposal`: the fields it leaves alone -/

@[simp] theorem State.endProposal_resetting (s : State) (p : Proposal) (x : AccordOutcome) (d : Option HostId) : (s.endProposal p x d).resetting = s.resetting := by
  simp [State.endProposal]

@[simp] theorem State.endProposal_resetCause (s : State) (p : Proposal) (x : AccordOutcome) (d : Option HostId) : (s.endProposal p x d).resetCause = s.resetCause := by
  simp [State.endProposal]

@[simp] theorem State.endProposal_table (s : State) (p : Proposal) (x : AccordOutcome) (d : Option HostId) : (s.endProposal p x d).table = s.table := by
  simp [State.endProposal]

@[simp] theorem State.endProposal_tick (s : State) (p : Proposal) (x : AccordOutcome) (d : Option HostId) : (s.endProposal p x d).tick = s.tick := by
  simp [State.endProposal]

@[simp] theorem State.endProposal_pool (s : State) (p : Proposal) (x : AccordOutcome) (d : Option HostId) : (s.endProposal p x d).pool = s.pool := by
  simp [State.endProposal]

@[simp] theorem State.endProposal_line (s : State) (p : Proposal) (x : AccordOutcome) (d : Option HostId) : (s.endProposal p x d).line = s.line := by
  simp [State.endProposal]

@[simp] theorem State.endProposal_arbiter (s : State) (p : Proposal) (x : AccordOutcome) (d : Option HostId) : (s.endProposal p x d).arbiter = s.arbiter := by
  simp [State.endProposal]

@[simp] theorem State.endProposal_ports (s : State) (p : Proposal) (x : AccordOutcome) (d : Option HostId) : (s.endProposal p x d).ports = s.ports := by
  simp [State.endProposal]

@[simp] theorem State.endProposal_pending (s : State) (p : Proposal) (x : AccordOutcome) (d : Option HostId) : (s.endProposal p x d).pending = s.pending := by
  simp [State.endProposal]

/-! ### `finishRecord`: the fields it leaves alone -/

@[simp] theorem State.finishRecord_resetting (s : State) (r : Handle) (n : Nat) : (s.finishRecord r n).resetting = s.resetting := by
  unfold State.finishRecord; split <;> simp

@[simp] theorem State.finishRecord_resetCause (s : State) (r : Handle) (n : Nat) : (s.finishRecord r n).resetCause = s.resetCause := by
  unfold State.finishRecord; split <;> simp

@[simp] theorem State.finishRecord_table (s : State) (r : Handle) (n : Nat) : (s.finishRecord r n).table = s.table := by
  unfold State.finishRecord; split <;> simp

@[simp] theorem State.finishRecord_tick (s : State) (r : Handle) (n : Nat) : (s.finishRecord r n).tick = s.tick := by
  unfold State.finishRecord; split <;> simp

@[simp] theorem State.finishRecord_line (s : State) (r : Handle) (n : Nat) : (s.finishRecord r n).line = s.line := by
  unfold State.finishRecord; split <;> simp

@[simp] theorem State.finishRecord_hosts (s : State) (r : Handle) (n : Nat) : (s.finishRecord r n).hosts = s.hosts := by
  unfold State.finishRecord; split <;> simp

@[simp] theorem State.finishRecord_arbiter (s : State) (r : Handle) (n : Nat) : (s.finishRecord r n).arbiter = s.arbiter := by
  unfold State.finishRecord; split <;> simp

@[simp] theorem State.finishRecord_accord (s : State) (r : Handle) (n : Nat) : (s.finishRecord r n).accord = s.accord := by
  unfold State.finishRecord; split <;> simp

@[simp] theorem State.finishRecord_ports (s : State) (r : Handle) (n : Nat) : (s.finishRecord r n).ports = s.ports := by
  unfold State.finishRecord; split <;> simp

@[simp] theorem State.finishRecord_pending (s : State) (r : Handle) (n : Nat) : (s.finishRecord r n).pending = s.pending := by
  unfold State.finishRecord; split <;> simp

/-! ### `classify`: the fields it leaves alone -/

@[simp] theorem State.classify_resetting (s : State) (r : Handle) (a b : Address) : (s.classify r a b).resetting = s.resetting := by
  unfold State.classify; dsimp only; split <;> [split; skip; skip] <;> simp

@[simp] theorem State.classify_resetCause (s : State) (r : Handle) (a b : Address) : (s.classify r a b).resetCause = s.resetCause := by
  unfold State.classify; dsimp only; split <;> [split; skip; skip] <;> simp

@[simp] theorem State.classify_tick (s : State) (r : Handle) (a b : Address) : (s.classify r a b).tick = s.tick := by
  unfold State.classify; dsimp only; split <;> [split; skip; skip] <;> simp

@[simp] theorem State.classify_arbiter (s : State) (r : Handle) (a b : Address) : (s.classify r a b).arbiter = s.arbiter := by
  unfold State.classify; dsimp only; split <;> [split; skip; skip] <;> simp

@[simp] theorem State.classify_accord (s : State) (r : Handle) (a b : Address) : (s.classify r a b).accord = s.accord := by
  unfold State.classify; dsimp only; split <;> [split; skip; skip] <;> simp

@[simp] theorem State.classify_ports (s : State) (r : Handle) (a b : Address) : (s.classify r a b).ports = s.ports := by
  unfold State.classify; dsimp only; split <;> [split; skip; skip] <;> simp

@[simp] theorem State.classify_pending (s : State) (r : Handle) (a b : Address) : (s.classify r a b).pending = s.pending := by
  unfold State.classify; dsimp only; split <;> [split; skip; skip] <;> simp

/-! ### `settleReception`: the fields it leaves alone -/

@[simp] theorem State.settleReception_resetting (s : State) (r : Handle) (n : Nat) (x : RxOutcome) : (s.settleReception r n x).resetting = s.resetting := by
  unfold State.settleReception; split <;> [skip; (dsimp only; split)] <;> simp

@[simp] theorem State.settleReception_resetCause (s : State) (r : Handle) (n : Nat) (x : RxOutcome) : (s.settleReception r n x).resetCause = s.resetCause := by
  unfold State.settleReception; split <;> [skip; (dsimp only; split)] <;> simp

@[simp] theorem State.settleReception_tick (s : State) (r : Handle) (n : Nat) (x : RxOutcome) : (s.settleReception r n x).tick = s.tick := by
  unfold State.settleReception; split <;> [skip; (dsimp only; split)] <;> simp

@[simp] theorem State.settleReception_arbiter (s : State) (r : Handle) (n : Nat) (x : RxOutcome) : (s.settleReception r n x).arbiter = s.arbiter := by
  unfold State.settleReception; split <;> [skip; (dsimp only; split)] <;> simp

@[simp] theorem State.settleReception_accord (s : State) (r : Handle) (n : Nat) (x : RxOutcome) : (s.settleReception r n x).accord = s.accord := by
  unfold State.settleReception; split <;> [skip; (dsimp only; split)] <;> simp

@[simp] theorem State.settleReception_ports (s : State) (r : Handle) (n : Nat) (x : RxOutcome) : (s.settleReception r n x).ports = s.ports := by
  unfold State.settleReception; split <;> [skip; (dsimp only; split)] <;> simp

@[simp] theorem State.settleReception_pending (s : State) (r : Handle) (n : Nat) (x : RxOutcome) : (s.settleReception r n x).pending = s.pending := by
  unfold State.settleReception; split <;> [skip; (dsimp only; split)] <;> simp

/-! ### `disableReception`: the fields it leaves alone -/

@[simp] theorem State.disableReception_resetting (s : State)  : (s.disableReception ).resetting = s.resetting := by
  unfold State.disableReception; split <;> [split; skip] <;> simp

@[simp] theorem State.disableReception_resetCause (s : State)  : (s.disableReception ).resetCause = s.resetCause := by
  unfold State.disableReception; split <;> [split; skip] <;> simp

@[simp] theorem State.disableReception_tick (s : State)  : (s.disableReception ).tick = s.tick := by
  unfold State.disableReception; split <;> [split; skip] <;> simp

@[simp] theorem State.disableReception_arbiter (s : State)  : (s.disableReception ).arbiter = s.arbiter := by
  unfold State.disableReception; split <;> [split; skip] <;> simp

@[simp] theorem State.disableReception_accord (s : State)  : (s.disableReception ).accord = s.accord := by
  unfold State.disableReception; split <;> [split; skip] <;> simp

@[simp] theorem State.disableReception_ports (s : State)  : (s.disableReception ).ports = s.ports := by
  unfold State.disableReception; split <;> [split; skip] <;> simp

@[simp] theorem State.disableReception_pending (s : State)  : (s.disableReception ).pending = s.pending := by
  unfold State.disableReception; split <;> [split; skip] <;> simp

/-! ### `applyProposal`: the fields it leaves alone -/

@[simp] theorem State.applyProposal_resetting (s : State) (p : Proposal) : (s.applyProposal p).resetting = s.resetting := by
  unfold State.applyProposal; dsimp only; split <;> simp

@[simp] theorem State.applyProposal_resetCause (s : State) (p : Proposal) : (s.applyProposal p).resetCause = s.resetCause := by
  unfold State.applyProposal; dsimp only; split <;> simp

@[simp] theorem State.applyProposal_tick (s : State) (p : Proposal) : (s.applyProposal p).tick = s.tick := by
  unfold State.applyProposal; dsimp only; split <;> simp

@[simp] theorem State.applyProposal_arbiter (s : State) (p : Proposal) : (s.applyProposal p).arbiter = s.arbiter := by
  unfold State.applyProposal; dsimp only; split <;> simp

@[simp] theorem State.applyProposal_ports (s : State) (p : Proposal) : (s.applyProposal p).ports = s.ports := by
  unfold State.applyProposal; dsimp only; split <;> simp

@[simp] theorem State.applyProposal_pending (s : State) (p : Proposal) : (s.applyProposal p).pending = s.pending := by
  unfold State.applyProposal; dsimp only; split <;> simp

@[simp] theorem State.detachOwned_resetting (h : HostId) (s : State) (i : Index) : (State.detachOwned h s i).resetting = s.resetting := by
  unfold State.detachOwned; split <;> [split; skip] <;> simp

@[simp] theorem State.detachOwned_resetCause (h : HostId) (s : State) (i : Index) : (State.detachOwned h s i).resetCause = s.resetCause := by
  unfold State.detachOwned; split <;> [split; skip] <;> simp

@[simp] theorem State.detachOwned_tick (h : HostId) (s : State) (i : Index) : (State.detachOwned h s i).tick = s.tick := by
  unfold State.detachOwned; split <;> [split; skip] <;> simp

@[simp] theorem State.detachOwned_pool (h : HostId) (s : State) (i : Index) : (State.detachOwned h s i).pool = s.pool := by
  unfold State.detachOwned; split <;> [split; skip] <;> simp

@[simp] theorem State.detachOwned_line (h : HostId) (s : State) (i : Index) : (State.detachOwned h s i).line = s.line := by
  unfold State.detachOwned; split <;> [split; skip] <;> simp

@[simp] theorem State.detachOwned_arbiter (h : HostId) (s : State) (i : Index) : (State.detachOwned h s i).arbiter = s.arbiter := by
  unfold State.detachOwned; split <;> [split; skip] <;> simp

@[simp] theorem State.detachOwned_accord (h : HostId) (s : State) (i : Index) : (State.detachOwned h s i).accord = s.accord := by
  unfold State.detachOwned; split <;> [split; skip] <;> simp

@[simp] theorem State.detachOwned_ports (h : HostId) (s : State) (i : Index) : (State.detachOwned h s i).ports = s.ports := by
  unfold State.detachOwned; split <;> [split; skip] <;> simp

@[simp] theorem State.detachOwned_pending (h : HostId) (s : State) (i : Index) : (State.detachOwned h s i).pending = s.pending := by
  unfold State.detachOwned; split <;> [split; skip] <;> simp

@[simp] theorem State.detachOther_resetting (h : HostId) (s : State) (i : Index) : (State.detachOther h s i).resetting = s.resetting := by
  unfold State.detachOther; split <;> [skip; split; split] <;> simp

@[simp] theorem State.detachOther_resetCause (h : HostId) (s : State) (i : Index) : (State.detachOther h s i).resetCause = s.resetCause := by
  unfold State.detachOther; split <;> [skip; split; split] <;> simp

@[simp] theorem State.detachOther_tick (h : HostId) (s : State) (i : Index) : (State.detachOther h s i).tick = s.tick := by
  unfold State.detachOther; split <;> [skip; split; split] <;> simp

@[simp] theorem State.detachOther_pool (h : HostId) (s : State) (i : Index) : (State.detachOther h s i).pool = s.pool := by
  unfold State.detachOther; split <;> [skip; split; split] <;> simp

@[simp] theorem State.detachOther_line (h : HostId) (s : State) (i : Index) : (State.detachOther h s i).line = s.line := by
  unfold State.detachOther; split <;> [skip; split; split] <;> simp

@[simp] theorem State.detachOther_arbiter (h : HostId) (s : State) (i : Index) : (State.detachOther h s i).arbiter = s.arbiter := by
  unfold State.detachOther; split <;> [skip; split; split] <;> simp

@[simp] theorem State.detachOther_accord (h : HostId) (s : State) (i : Index) : (State.detachOther h s i).accord = s.accord := by
  unfold State.detachOther; split <;> [skip; split; split] <;> simp

@[simp] theorem State.detachOther_ports (h : HostId) (s : State) (i : Index) : (State.detachOther h s i).ports = s.ports := by
  unfold State.detachOther; split <;> [skip; split; split] <;> simp

@[simp] theorem State.detachOther_pending (h : HostId) (s : State) (i : Index) : (State.detachOther h s i).pending = s.pending := by
  unfold State.detachOther; split <;> [skip; split; split] <;> simp

theorem foldl_keeps {α β γ : Type} (f : α → β → α) (g : α → γ) (hf : ∀ a b, g (f a b) = g a) (l : List β) (a : α) :
    g (l.foldl f a) = g a := by
  induction l generalizing a with
  | nil => rfl
  | cons b l ih => rw [List.foldl_cons, ih, hf]

@[simp] theorem State.detachTable_resetting (s : State) (h : HostId) : (s.detachTable h).resetting = s.resetting := by
  exact (foldl_keeps (State.detachOther h) State.resetting (by simp) _ _).trans
    (foldl_keeps (State.detachOwned h) State.resetting (by simp) _ _)

@[simp] theorem State.detachTable_resetCause (s : State) (h : HostId) : (s.detachTable h).resetCause = s.resetCause := by
  exact (foldl_keeps (State.detachOther h) State.resetCause (by simp) _ _).trans
    (foldl_keeps (State.detachOwned h) State.resetCause (by simp) _ _)

@[simp] theorem State.detachTable_tick (s : State) (h : HostId) : (s.detachTable h).tick = s.tick := by
  exact (foldl_keeps (State.detachOther h) State.tick (by simp) _ _).trans
    (foldl_keeps (State.detachOwned h) State.tick (by simp) _ _)

@[simp] theorem State.detachTable_pool (s : State) (h : HostId) : (s.detachTable h).pool = s.pool := by
  exact (foldl_keeps (State.detachOther h) State.pool (by simp) _ _).trans
    (foldl_keeps (State.detachOwned h) State.pool (by simp) _ _)

@[simp] theorem State.detachTable_line (s : State) (h : HostId) : (s.detachTable h).line = s.line := by
  exact (foldl_keeps (State.detachOther h) State.line (by simp) _ _).trans
    (foldl_keeps (State.detachOwned h) State.line (by simp) _ _)

@[simp] theorem State.detachTable_arbiter (s : State) (h : HostId) : (s.detachTable h).arbiter = s.arbiter := by
  exact (foldl_keeps (State.detachOther h) State.arbiter (by simp) _ _).trans
    (foldl_keeps (State.detachOwned h) State.arbiter (by simp) _ _)

@[simp] theorem State.detachTable_accord (s : State) (h : HostId) : (s.detachTable h).accord = s.accord := by
  exact (foldl_keeps (State.detachOther h) State.accord (by simp) _ _).trans
    (foldl_keeps (State.detachOwned h) State.accord (by simp) _ _)

@[simp] theorem State.detachTable_ports (s : State) (h : HostId) : (s.detachTable h).ports = s.ports := by
  exact (foldl_keeps (State.detachOther h) State.ports (by simp) _ _).trans
    (foldl_keeps (State.detachOwned h) State.ports (by simp) _ _)

@[simp] theorem State.detachTable_pending (s : State) (h : HostId) : (s.detachTable h).pending = s.pending := by
  exact (foldl_keeps (State.detachOther h) State.pending (by simp) _ _).trans
    (foldl_keeps (State.detachOwned h) State.pending (by simp) _ _)

/-! ### `detachHost`: the fields it leaves alone -/

@[simp] theorem State.detachHost_resetting (s : State) (h : HostId) : (s.detachHost h).resetting = s.resetting := by
  simp [State.detachHost]

@[simp] theorem State.detachHost_resetCause (s : State) (h : HostId) : (s.detachHost h).resetCause = s.resetCause := by
  simp [State.detachHost]

@[simp] theorem State.detachHost_table (s : State) (h : HostId) : (s.detachHost h).table = s.table := by
  simp [State.detachHost]

@[simp] theorem State.detachHost_tick (s : State) (h : HostId) : (s.detachHost h).tick = s.tick := by
  simp [State.detachHost]

@[simp] theorem State.detachHost_line (s : State) (h : HostId) : (s.detachHost h).line = s.line := by
  simp [State.detachHost]

@[simp] theorem State.detachHost_arbiter (s : State) (h : HostId) : (s.detachHost h).arbiter = s.arbiter := by
  simp [State.detachHost]

@[simp] theorem State.detachHost_accord (s : State) (h : HostId) : (s.detachHost h).accord = s.accord := by
  simp [State.detachHost]

@[simp] theorem State.detachHost_ports (s : State) (h : HostId) : (s.detachHost h).ports = s.ports := by
  simp [State.detachHost]

@[simp] theorem State.detachHost_pending (s : State) (h : HostId) : (s.detachHost h).pending = s.pending := by
  simp [State.detachHost]

/-! ### `detachTransmit`: the fields it leaves alone -/

@[simp] theorem State.detachTransmit_resetting (s : State) (h : HostId) : (s.detachTransmit h).resetting = s.resetting := by
  simp [State.detachTransmit]

@[simp] theorem State.detachTransmit_resetCause (s : State) (h : HostId) : (s.detachTransmit h).resetCause = s.resetCause := by
  simp [State.detachTransmit]

@[simp] theorem State.detachTransmit_table (s : State) (h : HostId) : (s.detachTransmit h).table = s.table := by
  simp [State.detachTransmit]

@[simp] theorem State.detachTransmit_tick (s : State) (h : HostId) : (s.detachTransmit h).tick = s.tick := by
  simp [State.detachTransmit]

@[simp] theorem State.detachTransmit_line (s : State) (h : HostId) : (s.detachTransmit h).line = s.line := by
  simp [State.detachTransmit]

@[simp] theorem State.detachTransmit_hosts (s : State) (h : HostId) : (s.detachTransmit h).hosts = s.hosts := by
  simp [State.detachTransmit]

@[simp] theorem State.detachTransmit_accord (s : State) (h : HostId) : (s.detachTransmit h).accord = s.accord := by
  simp [State.detachTransmit]

@[simp] theorem State.detachTransmit_ports (s : State) (h : HostId) : (s.detachTransmit h).ports = s.ports := by
  simp [State.detachTransmit]

@[simp] theorem State.detachTransmit_pending (s : State) (h : HostId) : (s.detachTransmit h).pending = s.pending := by
  simp [State.detachTransmit]

/-! ### `detachAccord`: the fields it leaves alone -/

@[simp] theorem State.detachAccord_resetting (s : State) (h : HostId) : (s.detachAccord h).resetting = s.resetting := by
  unfold State.detachAccord; split <;> [skip; (split <;> [skip; (split <;> [(dsimp only; split); skip])])] <;> simp

@[simp] theorem State.detachAccord_resetCause (s : State) (h : HostId) : (s.detachAccord h).resetCause = s.resetCause := by
  unfold State.detachAccord; split <;> [skip; (split <;> [skip; (split <;> [(dsimp only; split); skip])])] <;> simp

@[simp] theorem State.detachAccord_tick (s : State) (h : HostId) : (s.detachAccord h).tick = s.tick := by
  unfold State.detachAccord; split <;> [skip; (split <;> [skip; (split <;> [(dsimp only; split); skip])])] <;> simp

@[simp] theorem State.detachAccord_arbiter (s : State) (h : HostId) : (s.detachAccord h).arbiter = s.arbiter := by
  unfold State.detachAccord; split <;> [skip; (split <;> [skip; (split <;> [(dsimp only; split); skip])])] <;> simp

@[simp] theorem State.detachAccord_ports (s : State) (h : HostId) : (s.detachAccord h).ports = s.ports := by
  unfold State.detachAccord; split <;> [skip; (split <;> [skip; (split <;> [(dsimp only; split); skip])])] <;> simp

@[simp] theorem State.detachAccord_pending (s : State) (h : HostId) : (s.detachAccord h).pending = s.pending := by
  unfold State.detachAccord; split <;> [skip; (split <;> [skip; (split <;> [(dsimp only; split); skip])])] <;> simp

/-! ### `cleanUp`: the fields it leaves alone -/

@[simp] theorem State.cleanUp_resetting (s : State) (h : HostId) (c : DetachCause) : (s.cleanUp h c).resetting = s.resetting := by
  simp [State.cleanUp]

@[simp] theorem State.cleanUp_resetCause (s : State) (h : HostId) (c : DetachCause) : (s.cleanUp h c).resetCause = s.resetCause := by
  simp [State.cleanUp]

@[simp] theorem State.cleanUp_tick (s : State) (h : HostId) (c : DetachCause) : (s.cleanUp h c).tick = s.tick := by
  simp [State.cleanUp]

@[simp] theorem State.cleanUp_pending (s : State) (h : HostId) (c : DetachCause) : (s.cleanUp h c).pending = s.pending := by
  simp [State.cleanUp]

end Sys2Proof.Machine
end

