-- ==== Sys2Proof/Laws/Requests.lean ====
section
/-! SUPPORT. How a request row runs: its bytes reach the port, the request is complete with its last byte, the generic
checks pass, and the port holds the response to what `serve` answers. -/

namespace Sys2Proof.Machine

/-! ### A request's own bytes -/

theorem length_requestBytes (code : Byte) (tag : Word16) (p : List Byte) :
    (requestBytes code tag p).length = p.length + 5 := by
  simp [requestBytes]; omega

theorem requestTag_requestBytes (code : Byte) (tag : Word16) (p : List Byte) :
    requestTag (code :: requestBytes code tag p) = tag := by
  simp [requestTag, requestBytes, List.append_assoc]

theorem word16At_add_two (w : Word16) (l : List Byte) (k : Nat) : word16At (word16Bytes w ++ l) (k + 2) = word16At l k := rfl

theorem requestLength_requestBytes (code : Byte) (tag : Word16) (p : List Byte) (hp : p.length ≤ 1530) :
    requestLength (code :: requestBytes code tag p) = p.length := by
  have : word16At (code :: requestBytes code tag p) 3 = BitVec.ofNat 16 p.length := by
    simp only [requestBytes, List.append_assoc, word16At_succ]
    exact (word16At_add_two _ _ 0).trans (word16At_nat16Bytes ..)
  rw [requestLength, this, BitVec.toNat_ofNat]
  omega

theorem requestEnd_requestBytes (code : Byte) (tag : Word16) (p : List Byte) (hp : p.length ≤ 1530) :
    requestEnd (code :: requestBytes code tag p) = some (p.length + 6) := by
  have hl := length_requestBytes code tag p
  have hn : (word16At (code :: requestBytes code tag p) 3).toNat = p.length := requestLength_requestBytes code tag p hp
  simp only [requestEnd, hn, List.length_cons, hl]
  rw [if_neg (by omega), if_neg (by simp [Config.maxParameters]; omega), if_neg (by omega)]

theorem requestParams_requestBytes (code : Byte) (tag : Word16) (p : List Byte) (hp : p.length ≤ 1530) :
    requestParams (code :: requestBytes code tag p) = p := by
  rw [requestParams, requestLength_requestBytes code tag p hp]
  show (p ++ [_]).take p.length = p
  simp

theorem byteSum_requestBytes (code : Byte) (tag : Word16) (p : List Byte) :
    byteSum (code :: requestBytes code tag p) = 0 :=
  byteSum_checkByte (code :: (word16Bytes tag ++ nat16Bytes p.length ++ p))

theorem Command.ofCode_code (c : Command) : Command.ofCode c.code = some c := by cases c <;> rfl

theorem Command.length_le (c : Command) {n : Nat} (h : c.admitsLength n = true) : n ≤ 1530 := by
  cases c <;> simp [Command.admitsLength, Config.maxParameters] at h <;> omega

/-! ### What a row does -/

theorem exec_ofRequest (h : HostId) (c : Command) (bytes : List Byte) (s : State) :
    exec (Instr.ofRequest h c bytes) s = .next (s.shiftIn h (c.code :: bytes)) := by cases c <;> rfl

theorem exec_spells {i : Instr} {h : HostId} {row : List Byte} (hi : i.Spells h row) (s : State) :
    exec i s = .next (s.shiftIn h row) := by
  obtain ⟨c, bytes, rfl, rfl⟩ | ⟨code, bytes, rfl, rfl⟩ := hi
  · exact exec_ofRequest h c bytes s
  · rfl

/-- On a listening port a row that completes its request has the request taken. -/
theorem State.shiftIn_listening {s : State} {h : HostId} (hl : s.Listening h) {row : List Byte} {n : Nat}
    (hn : requestEnd row = some n) :
    s.shiftIn h row = s.takeRequest h (row.take n) (row.length - n) := by
  simp [State.shiftIn, hl.runs, hl.released, hl.phase, hl.empty, hn]

/-! ### What a command leaves of its port -/

theorem serve_ports (h : HostId) (c : Command) (p : List Byte) (s : State) (hc : c ≠ .detach) :
    (serve h c p s).1.ports = s.ports := by
  cases c <;> first | exact absurd rfl hc | skip
  all_goals simp only [serve, attachRequest, identifyRequest, readNoticesRequest, setNoticeMaskRequest,
    readCountersRequest, clearCountersRequest, readTickRequest, stageRequest, bindRequest, yieldRequest,
    setActionRequest, joinRequest, leaveRequest, offerRequest, acceptRequest, refuseRequest, retractRequest,
    renewRequest, lookupRequest, listHeldRequest, poolStatusRequest, lineStatusRequest, readFrameRequest,
    ackFrameRequest, queueStatusRequest, dozeRequest, sleepRequest, resumeRequest, readWakeRequest,
    setHostParamsRequest, submitRequest, readCompletionsRequest, readConfigRequest, proposeRequest, endorseRequest,
    declineRequest, withdrawRequest, refused, accepted, State.acceptFrame, State.refuseFrame]
  all_goals repeat' split
  all_goals simp

/-- No command changes a port but for its last detach cause. -/
theorem serve_port (h : HostId) (c : Command) (p : List Byte) (s : State) (k : HostId) :
    (serve h c p s).1.port k = { s.port k with lastDetach := ((serve h c p s).1.port k).lastDetach } := by
  by_cases hc : c = .detach
  · subst hc
    by_cases hk : k = h
    · subst hk
      simp [serve, detachRequest, accepted, State.cleanUp, State.setDetachCause]
      simp [State.port]
    · simp [serve, detachRequest, accepted, State.cleanUp, State.setDetachCause, State.port_setPort, hk]
      simp [State.port]
  · simp [State.port, serve_ports h c p s hc]

/-! ### The response -/

/-- A request refused by the generic checks changes nothing; any other is answered by `serve`. Either way the port keeps
all but its last detach cause. -/
theorem State.answer_port (s : State) (h : HostId) (req : List Byte) :
    (s.answer h req).1.port h = { s.port h with lastDetach := ((s.answer h req).1.port h).lastDetach } := by
  unfold State.answer
  split
  · rfl
  · exact serve_port ..

/-- On a listening port a request taken with no byte after it is answered. -/
theorem State.takeRequest_eq {s : State} {h : HostId} (hl : s.Listening h) (req : List Byte) :
    s.takeRequest h req 0 = (s.answer h req).1.answered h req (requestTag req) (s.answer h req).2.status.code
      (s.answer h req).2.payload := by
  have hp : ((s.answer h req).1.ports.get h).held = false :=
    (congrArg Port.held (s.answer_port h req)).trans hl.released
  simp [State.takeRequest, Port.respond, State.answered, State.setPort, hp, responseBytes, responseFrame, State.port]

/-- A row that spells one whole request on a listening port is answered. -/
theorem State.exec_whole {s : State} {i : Instr} {h : HostId} {row : List Byte} (hi : i.Spells h row)
    (hl : s.Listening h) (hr : requestEnd row = some row.length) :
    exec i s = .next ((s.answer h row).1.answered h row (requestTag row) (s.answer h row).2.status.code
      (s.answer h row).2.payload) := by
  rw [exec_spells hi, State.shiftIn_listening hl hr]
  simp [State.takeRequest_eq hl]

/-- A request that passes the generic checks reaches `serve`. -/
theorem State.answer_request (s : State) (h : HostId) (c : Command) (tag : Word16) (p : List Byte)
    (hp : c.admitsLength p.length = true) (ha : s.attached h = true ∨ c.needsAttachment = false)
    (hb : c = .attach → s.attached h = false) :
    s.answer h (c.code :: requestBytes c.code tag p) = serve h c p s := by
  have hn := c.length_le hp
  have hl := requestLength_requestBytes c.code tag p hn
  have h1 : ¬ (!s.attached h && c.needsAttachment) = true := by
    rcases ha with ha | ha <;> simp [ha]
  have h2 : ¬ (s.attached h && decide (c = .attach)) = true := by
    by_cases hc : c = .attach <;> simp [hc, hb]
  have hg : genericCheck s h (c.code :: requestBytes c.code tag p) = .ok c := by
    simp only [genericCheck, takenAtHeader, hl, byteSum_requestBytes, byteAt_zero, Command.ofCode_code, hp]
    rw [if_neg (by simp [Config.maxParameters]; omega), if_neg (by simp)]
    simp only [Bool.not_true, Bool.false_eq_true, if_false]
    rw [if_neg h1, if_neg h2]
  simp only [State.answer, hg, requestParams_requestBytes c.code tag p hn]

/-- A command's row on a listening port, its generic checks passed, does what `serve` does and is answered so. -/
theorem State.exec_request {s : State} {h : HostId} (hl : s.Listening h) (c : Command) (tag : Word16) (p : List Byte)
    (hp : c.admitsLength p.length = true) (ha : s.attached h = true ∨ c.needsAttachment = false)
    (hb : c = .attach → s.attached h = false) :
    exec (Instr.ofRequest h c (requestBytes c.code tag p)) s = .next
      ((serve h c p s).1.responded h c.code tag p (serve h c p s).2.status.code (serve h c p s).2.payload) := by
  have hn := c.length_le hp
  have hr : requestEnd (c.code :: requestBytes c.code tag p) = some (c.code :: requestBytes c.code tag p).length := by
    rw [requestEnd_requestBytes c.code tag p hn, List.length_cons, length_requestBytes]
  rw [State.exec_whole (Or.inl ⟨c, _, rfl, rfl⟩) hl hr, State.answer_request s h c tag p hp ha hb, requestTag_requestBytes]
  rfl

/-- The same for a host that is attached, with a command other than ATTACH. -/
theorem State.exec_heard {s : State} {h : HostId} (hh : s.Heard h) (c : Command) (tag : Word16) (p : List Byte)
    (hp : c.admitsLength p.length = true) (hc : c ≠ .attach) :
    exec (Instr.ofRequest h c (requestBytes c.code tag p)) s = .next
      ((serve h c p s).1.responded h c.code tag p (serve h c p s).2.status.code (serve h c p s).2.payload) :=
  State.exec_request hh.listening c tag p hp (.inl ((HostCtx.attached_iff _).2 hh.attached)) (fun h => absurd h hc)

theorem State.Ready.heard {s : State} {h : HostId} (hr : s.Ready h) : s.Heard h :=
  ⟨hr.listening, by rcases hr.awake with e | e <;> simp [e]⟩

theorem State.Ready.not_asleep {s : State} {h : HostId} (hr : s.Ready h) : s.asleep h = false := by
  rcases hr.awake with e | e <;> simp [State.asleep, e, Reach.isAsleep]

end Sys2Proof.Machine
end

