-- ==== Sys2Proof/Laws/Ports.lean ====
section
/-! SUPPORT. What the part does with a request does not depend on the ports, but for IDENTIFY, which reads the last detach
cause, and DETACH, which writes it: every operation commutes with a change of the ports. -/

namespace Sys2Proof.Machine

/-- `s` with all its ports replaced. -/
def State.withPorts (s : State) (p : PerHost Port) : State := { s with ports := p }

variable (s : State) (p : PerHost Port)

/-! ### What reads no port -/

@[simp] theorem State.withPorts_tick : (s.withPorts p).tick = s.tick := rfl
@[simp] theorem State.withPorts_line : (s.withPorts p).line = s.line := rfl
@[simp] theorem State.withPorts_accord : (s.withPorts p).accord = s.accord := rfl
@[simp] theorem State.withPorts_pool : (s.withPorts p).pool = s.pool := rfl
@[simp] theorem State.withPorts_resetCause : (s.withPorts p).resetCause = s.resetCause := rfl
@[simp] theorem State.withPorts_arbiter : (s.withPorts p).arbiter = s.arbiter := rfl
@[simp] theorem State.withPorts_table : (s.withPorts p).table = s.table := rfl
@[simp] theorem State.withPorts_hosts : (s.withPorts p).hosts = s.hosts := rfl
@[simp] theorem State.withPorts_resetting : (s.withPorts p).resetting = s.resetting := rfl
@[simp] theorem State.withPorts_host (h : HostId) : (s.withPorts p).host h = s.host h := rfl
@[simp] theorem State.withPorts_tx (h : HostId) : (s.withPorts p).tx h = s.tx h := rfl
@[simp] theorem State.withPorts_entry (i : Index) : (s.withPorts p).entry i = s.entry i := rfl
@[simp] theorem State.withPorts_record (r : Handle) : (s.withPorts p).record r = s.record r := rfl
@[simp] theorem State.withPorts_attached (h : HostId) : (s.withPorts p).attached h = s.attached h := rfl
@[simp] theorem State.withPorts_asleep (h : HostId) : (s.withPorts p).asleep h = s.asleep h := rfl
@[simp] theorem State.withPorts_stamp : (s.withPorts p).stamp = s.stamp := rfl
@[simp] theorem State.withPorts_attachedHosts : (s.withPorts p).attachedHosts = s.attachedHosts := rfl
@[simp] theorem State.withPorts_entryRef (i : Index) : (s.withPorts p).entryRef i = s.entryRef i := rfl
@[simp] theorem State.withPorts_cellCount (r : Handle) : (s.withPorts p).cellCount r = s.cellCount r := rfl
@[simp] theorem State.withPorts_frameBytes (r : Handle) : (s.withPorts p).frameBytes r = s.frameBytes r := rfl
@[simp] theorem State.withPorts_lowestFree : (s.withPorts p).lowestFree = s.lowestFree := rfl
@[simp] theorem State.withPorts_holder (a : Address) : (s.withPorts p).holder a = s.holder a := rfl
@[simp] theorem State.withPorts_attached_fun : (s.withPorts p).attached = s.attached := rfl
@[simp] theorem State.withPorts_heldItem (h : HostId) : (s.withPorts p).heldItem h = s.heldItem h := rfl
@[simp] theorem State.withPorts_sending : (s.withPorts p).sending = s.sending := rfl
@[simp] theorem State.withPorts_claimAt (a : Address) : (s.withPorts p).claimAt a = s.claimAt a := rfl
@[simp] theorem State.withPorts_groupAt (a : Address) : (s.withPorts p).groupAt a = s.groupAt a := rfl
@[simp] theorem State.withPorts_boundAt (a : Address) : (s.withPorts p).boundAt a = s.boundAt a := rfl
@[simp] theorem State.withPorts_holding (h : HostId) (a : Address) :
    (s.withPorts p).holding h a = s.holding h a := rfl
@[simp] theorem State.withPorts_holdings (h : HostId) : (s.withPorts p).holdings h = s.holdings h := rfl
@[simp] theorem State.withPorts_ownedBy (h : HostId) (i : Index) : (s.withPorts p).ownedBy h i = s.ownedBy h i := rfl
@[simp] theorem State.withPorts_current (i : Index) (g : Word16) : (s.withPorts p).current i g = s.current i g := rfl
@[simp] theorem State.withPorts_ownClaim (h : HostId) (i : Index) (g : Word16) :
    (s.withPorts p).ownClaim h i g = s.ownClaim h i g := rfl
@[simp] theorem State.withPorts_offeredClaim (h : HostId) (i : Index) :
    (s.withPorts p).offeredClaim h i = s.offeredClaim h i := rfl
@[simp] theorem State.withPorts_proposalOf (n : Word16) : (s.withPorts p).proposalOf n = s.proposalOf n := rfl
@[simp] theorem State.withPorts_entryPayload (i : Index) : (s.withPorts p).entryPayload i = s.entryPayload i := rfl
@[simp] theorem State.withPorts_newProposal (h : HostId) (c : ConfigRecord) :
    (s.withPorts p).newProposal h c = s.newProposal h c := rfl

/-! ### What changes no port -/

@[simp] theorem State.setHost_withPorts (h : HostId) (c : HostCtx) :
    (s.withPorts p).setHost h c = (s.setHost h c).withPorts p := rfl
@[simp] theorem State.setTx_withPorts (h : HostId) (t : TxHost) :
    (s.withPorts p).setTx h t = (s.setTx h t).withPorts p := rfl
@[simp] theorem State.setPath_withPorts (f : Option OnPath) :
    (s.withPorts p).setPath f = (s.setPath f).withPorts p := rfl
@[simp] theorem State.setEntry_withPorts (i : Index) (e : Entry) :
    (s.withPorts p).setEntry i e = (s.setEntry i e).withPorts p := rfl
@[simp] theorem State.setClaim_withPorts (i : Index) (c : Claim) :
    (s.withPorts p).setClaim i c = (s.setClaim i c).withPorts p := rfl
@[simp] theorem State.setGroup_withPorts (i : Index) (g : Group) :
    (s.withPorts p).setGroup i g = (s.setGroup i g).withPorts p := rfl
@[simp] theorem State.freeEntry_withPorts (i : Index) :
    (s.withPorts p).freeEntry i = (s.freeEntry i).withPorts p := rfl
@[simp] theorem State.setReception_withPorts (x : Option Reception) :
    (s.withPorts p).setReception x = (s.setReception x).withPorts p := rfl
@[simp] theorem State.countDevice_withPorts (f : DeviceCounters → DeviceCounters) :
    (s.withPorts p).countDevice f = (s.countDevice f).withPorts p := rfl
@[simp] theorem State.countHost_withPorts (h : HostId) (f : HostCounters → HostCounters) :
    (s.withPorts p).countHost h f = (s.countHost h f).withPorts p := rfl
@[simp] theorem State.setAccord_withPorts (a : Accord) :
    (s.withPorts p).setAccord a = (s.setAccord a).withPorts p := rfl
@[simp] theorem State.storeFrame_withPorts (h : HostId) (r : Handle) (l : List Handle) (b : List Byte) :
    (s.withPorts p).storeFrame h r l b = (s.storeFrame h r l b).withPorts p := rfl
@[simp] theorem State.notify_withPorts (h : HostId) (r : Report) :
    (s.withPorts p).notify h r = (s.notify h r).withPorts p := by
  by_cases ha : s.attached h = true <;> simp [State.notify, ha]

@[simp] theorem State.notifyAll_withPorts (hs : List HostId) (r : Report) :
    (s.withPorts p).notifyAll hs r = (s.notifyAll hs r).withPorts p :=
  List.foldl_hom (State.withPorts · p) (fun t h => State.notify_withPorts t p h r)

@[simp] theorem State.notifyOffer_withPorts (h k : HostId) (i : Index) (o : OfferOutcome) :
    (s.withPorts p).notifyOffer h k i o = (s.notifyOffer h k i o).withPorts p := by
  simp [State.notifyOffer]

@[simp] theorem State.endClaim_withPorts (i : Index) (c : Claim) :
    (s.withPorts p).endClaim i c = (s.endClaim i c).withPorts p := by
  unfold State.endClaim
  split <;> simp

@[simp] theorem State.removeMember_withPorts (i : Index) (g : Group) (h : HostId) :
    (s.withPorts p).removeMember i g h = (s.removeMember i g h).withPorts p := by
  unfold State.removeMember
  simp only
  split <;> rfl

@[simp] theorem State.markActivity_withPorts (i : Index) :
    (s.withPorts p).markActivity i = (s.markActivity i).withPorts p := by
  simp only [State.markActivity, State.withPorts_entry]
  repeat' split
  all_goals rfl

@[simp] theorem State.dropRef_withPorts (r : Handle) : (s.withPorts p).dropRef r = (s.dropRef r).withPorts p := by
  simp only [State.dropRef, State.withPorts_record]
  repeat' split
  all_goals rfl

@[simp] theorem State.dropRefs_withPorts (rs : List Handle) :
    (s.withPorts p).dropRefs rs = (s.dropRefs rs).withPorts p :=
  List.foldl_hom (State.withPorts · p) (fun t r => State.dropRef_withPorts t p r)

@[simp] theorem State.settleReception_withPorts (r : Handle) (n : Nat) :
    (s.withPorts p).settleReception r n .lineDisabled = (s.settleReception r n .lineDisabled).withPorts p := by
  simp only [State.settleReception, State.withPorts_record, State.countDevice_withPorts, State.dropRef_withPorts]
  split <;> rfl

@[simp] theorem State.disableReception_withPorts :
    (s.withPorts p).disableReception = s.disableReception.withPorts p := by
  simp only [State.disableReception, State.withPorts_line]
  repeat' split
  all_goals simp

@[simp] theorem State.notifyOutcome_withPorts (q : Proposal) (o : AccordOutcome) (d : Option HostId) :
    (s.withPorts p).notifyOutcome q o d = (s.notifyOutcome q o d).withPorts p := by
  simp [State.notifyOutcome]

@[simp] theorem State.endProposal_withPorts (q : Proposal) (o : AccordOutcome) (d : Option HostId) :
    (s.withPorts p).endProposal q o d = (s.endProposal q o d).withPorts p := by
  simp [State.endProposal]

@[simp] theorem State.applyProposal_withPorts (q : Proposal) :
    (s.withPorts p).applyProposal q = (s.applyProposal q).withPorts p := by
  simp only [State.applyProposal, State.withPorts_accord, State.setAccord_withPorts, State.notifyOutcome_withPorts,
    State.withPorts_attachedHosts, State.notifyAll_withPorts, State.disableReception_withPorts]
  split <;> rfl

@[simp] theorem State.detachTable_withPorts (h : HostId) :
    (s.withPorts p).detachTable h = (s.detachTable h).withPorts p := by
  have owned (t : State) (i : Index) : (t.withPorts p).detachOwned h i = (t.detachOwned h i).withPorts p := by
    simp only [State.detachOwned, State.withPorts_entry]
    repeat' split
    all_goals simp
  have other (t : State) (i : Index) : (t.withPorts p).detachOther h i = (t.detachOther h i).withPorts p := by
    simp only [State.detachOther, State.withPorts_entry]
    repeat' split
    all_goals simp
  simp only [State.detachTable]
  rw [List.foldl_hom (State.withPorts · p) owned, List.foldl_hom (State.withPorts · p) other]

@[simp] theorem State.detachHost_withPorts (h : HostId) :
    (s.withPorts p).detachHost h = (s.detachHost h).withPorts p := by
  simp [State.detachHost]

@[simp] theorem State.detachTransmit_withPorts (h : HostId) :
    (s.withPorts p).detachTransmit h = (s.detachTransmit h).withPorts p := by
  simp [State.detachTransmit]

@[simp] theorem State.detachAccord_withPorts (h : HostId) :
    (s.withPorts p).detachAccord h = (s.detachAccord h).withPorts p := by
  simp only [State.detachAccord, State.withPorts_accord]
  repeat' split
  all_goals simp

/-! ### Requests -/

/-- A request other than IDENTIFY and DETACH does the same to the rest of the part, and is answered the same, whatever
the ports hold. -/
theorem serve_withPorts (h : HostId) (c : Command) (b : List Byte) (hd : c ≠ .detach) (hi : c ≠ .identify) :
    serve h c b (s.withPorts p) = ((serve h c b s).1.withPorts p, (serve h c b s).2) := by
  cases c <;> first | exact absurd rfl hd | exact absurd rfl hi | skip
  all_goals simp only [serve, attachRequest, readNoticesRequest, setNoticeMaskRequest,
    readCountersRequest, clearCountersRequest, readTickRequest, stageRequest, bindRequest, yieldRequest,
    setActionRequest, joinRequest, leaveRequest, offerRequest, acceptRequest, refuseRequest, retractRequest,
    renewRequest, lookupRequest, listHeldRequest, poolStatusRequest, lineStatusRequest, readFrameRequest,
    ackFrameRequest, queueStatusRequest, dozeRequest, sleepRequest, resumeRequest, readWakeRequest,
    setHostParamsRequest, submitRequest, readCompletionsRequest, readConfigRequest, proposeRequest, endorseRequest,
    declineRequest, withdrawRequest, refused, accepted, State.acceptFrame, State.refuseFrame]
  all_goals simp
  all_goals repeat' (split <;> (try simp [*, -not_le, -Nat.not_le]))

/-- A command does the same, and is answered the same, whatever request buffer its port holds. -/
theorem serve_setRequest (h : HostId) (c : Command) (b q : List Byte) :
    serve h c b (s.setPort h { s.port h with request := q }) =
      ((serve h c b s).1.setPort h { (serve h c b s).1.port h with request := q }, (serve h c b s).2) := by
  have key : s.setPort h { s.port h with request := q } =
      s.withPorts (s.ports.set h { s.port h with request := q }) := rfl
  by_cases hd : c = .detach
  · subst hd
    simp [key, serve, detachRequest, accepted, State.cleanUp, State.setDetachCause]
    simp [State.withPorts, State.setPort, State.port]
  by_cases hi : c = .identify
  · subst hi
    simp [serve, identifyRequest, accepted]
  rw [key, serve_withPorts s _ h c b hd hi]
  simp [State.withPorts, State.setPort, State.port, serve_ports h c b s hd]

/-- A request is answered the same, and does the same, whatever request buffer its port holds. -/
theorem State.answer_setRequest (h : HostId) (r q : List Byte) :
    (s.setPort h { s.port h with request := q }).answer h r =
      ((s.answer h r).1.setPort h { (s.answer h r).1.port h with request := q }, (s.answer h r).2) := by
  have hg : genericCheck (s.setPort h { s.port h with request := q }) h r = genericCheck s h r := rfl
  simp only [State.answer, hg]
  split
  · rfl
  · exact serve_setRequest ..

end Sys2Proof.Machine
end

