-- ==== Sys2Proof/WellFormed.lean ====
section
/-! DEFINITION. When a command is one that the port can meet: a request row's bytes spell one whole request, and the
code of UNKNOWN_COMMAND names no command. An event row is always well formed: its index and host are in range by type.
The model gives every other run of bytes its meaning too (R171). -/

namespace Sys2Proof

/-- The bytes after a command code complete a request, and nothing follows it (R172). -/
def wholeRequest (code : Byte) (bytes : List Byte) : Bool :=
  Machine.requestEnd (code :: bytes) = some (bytes.length + 1)

/-- The command a request row stands for, with its bytes. -/
def Instr.request? : Instr → Option (Machine.Command × List Byte)
  | .attach _ b => some (.attach, b)
  | .detach _ b => some (.detach, b)
  | .identify _ b => some (.identify, b)
  | .readNotices _ b => some (.readNotices, b)
  | .setNoticeMask _ b => some (.setNoticeMask, b)
  | .readCounters _ b => some (.readCounters, b)
  | .clearCounters _ b => some (.clearCounters, b)
  | .readTick _ b => some (.readTick, b)
  | .stage _ b => some (.stage, b)
  | .bind _ b => some (.bind, b)
  | .yield _ b => some (.yield, b)
  | .setAction _ b => some (.setAction, b)
  | .join _ b => some (.join, b)
  | .leave _ b => some (.leave, b)
  | .offer _ b => some (.offer, b)
  | .accept _ b => some (.accept, b)
  | .refuse _ b => some (.refuse, b)
  | .retract _ b => some (.retract, b)
  | .renew _ b => some (.renew, b)
  | .lookup _ b => some (.lookup, b)
  | .listHeld _ b => some (.listHeld, b)
  | .poolStatus _ b => some (.poolStatus, b)
  | .lineStatus _ b => some (.lineStatus, b)
  | .readFrame _ b => some (.readFrame, b)
  | .ackFrame _ b => some (.ackFrame, b)
  | .queueStatus _ b => some (.queueStatus, b)
  | .doze _ b => some (.doze, b)
  | .sleep _ b => some (.sleep, b)
  | .resume _ b => some (.resume, b)
  | .readWake _ b => some (.readWake, b)
  | .setHostParams _ b => some (.setHostParams, b)
  | .submit _ b => some (.submit, b)
  | .readCompletions _ b => some (.readCompletions, b)
  | .readConfig _ b => some (.readConfig, b)
  | .propose _ b => some (.propose, b)
  | .endorse _ b => some (.endorse, b)
  | .decline _ b => some (.decline, b)
  | .withdraw _ b => some (.withdraw, b)
  | .unknownCommand .. | .selectAsserted _ | .selectReleased _ | .portReset _ | .portResetRelease _
  | .deviceReset _ | .resetEnd | .tick | .probeWindowExpiry _ | .stageHoldExpiry _ | .offerExpiry _
  | .leaseRunOut _ | .graceExpiry _ | .dozeDelayExpiry _ | .alarmExpiry _ | .attemptExpiry _ | .restExpiry _
  | .accordWindowExpiry | .lineUpEvent | .lineDownEvent | .frameStart | .receptionCellNeed _ | .wireFrameEnd
  | .grant | .sendCompletion | .wholeByteReceived _ | .receiveErrorMarked => none

/-- Whether a command is well formed. -/
def WellFormed (i : Instr) : Bool :=
  match i with
  | .unknownCommand _ code bytes => (Machine.Command.ofCode code).isNone && wholeRequest code bytes
  | i =>
    match i.request? with
    | some (c, bytes) => wholeRequest c.code bytes
    | none => true

end Sys2Proof
end

