-- ==== Sys2Proof/Tests/Slice0.lean ====
section
/-! SUPPORT. Small tests, each on one step: the checks of WellFormed, values worked out by hand from the manual's rules, and
for every statement with hypotheses states and operands that meet them, clause by clause. -/

namespace Sys2Proof.Tests

open Machine

-- Elaborated in sequence, to stay within the memory a compile may reserve.
set_option Elab.async false

/-! ### Small states -/

/-- Host `h` attached as an accepted ATTACH leaves it (R178). -/
def attach (h : HostId) (s : State) : State :=
  (s.setHost h (s.host h).attach).setTx h { s.tx h with nextSequence := some 0 }

/-- The port of host `h` in REQUEST with an empty request buffer. -/
def select (h : HostId) (s : State) : State := s.setPort h { s.port h with phase := .request }

/-- The port of host `h` in RESPONSE. -/
def answering (h : HostId) (s : State) : State := s.setPort h { s.port h with phase := .response, response := [0, 1, 2] }

/-- H0 and H1 attached, H0's port listening. -/
def running : State := select .h0 (attach .h1 (attach .h0 .reset))

/-- H0 DETACHED, its port listening. -/
def detached : State := select .h0 .reset

/-- H0 in a reachability state. -/
def reaching (r : Reach) (s : State) : State := s.setHost .h0 { s.host .h0 with reach := r }

/-- H0 ASLEEP with depth LIGHT. -/
def asleep : State := running.setHost .h0 ((running.host .h0).goToSleep .light 0)

/-- A device reset in progress. -/
def resetting : State := { running with resetting := some .resetPin }

/-- A LIVE, PINNED claim of H0. -/
def live : Claim where
  address := 0x024A11000001
  owner := .h0
  state := .live
  action := .wake
  mode := .pinned
  reload := none
  stageTimer := none
  leaseRemaining := none
  activitySeen := none
  graceRemaining := none
  offer := none
  hits := 0
  collisions := some 0

/-- A staged claim of H0, its stage timer at `n`. -/
def staged (st : ClaimState) (n : Nat) : Claim := { live with state := st, stageTimer := some n, collisions := none }

/-- A LIVE claim of H0 with an ACTIVITY lease. -/
def leased : Claim :=
  { live with mode := .activity, reload := some 1, leaseRemaining := some 0, activitySeen := some false }

/-- A LAPSING claim of H0. -/
def lapsing : Claim :=
  { live with state := .lapsing, mode := .fixed, reload := some 65535, graceRemaining := some 0 }

/-- The claim with an offer to H1. -/
def offered (c : Claim) (n : Nat) : Claim := { c with offer := some ⟨.h1, n⟩ }

/-- A group with H0 as its only member, and one with H1. -/
def group (h : HostId) : Group := { address := 0x01005E000001, members := noHosts.set h true, hits := 0 }

/-- Entry 63 holds something under generation 5. -/
def holding (u : EntryUse) (s : State) : State := s.setEntry 63 ⟨5, u⟩

/-- A received frame's record of one cell. -/
def record (refs : Nat) : FrameRecord :=
  { origin := .line, stamp := 0, chain := [0], exhausted := none, length := some 60, cls := none, matched := none,
    refs := refs }

/-- The record as it is while the Line Interface receives into it. -/
def receiving (exhausted : Bool) (chain : List CellId) : FrameRecord :=
  { record 1 with exhausted := some exhausted, length := none, chain := chain }

/-- Record 127 allocated. -/
def stored (rec : FrameRecord) (s : State) : State := s.setRecord 127 (some rec)

/-- A reception into record 127. -/
def reception (received : Nat) (recent : List Byte) (errorSeen : Bool) : Reception :=
  { mode := .storing 127, received := received, errorSeen := errorSeen, recent := recent, check := 0xFFFFFFFF }

/-- The line UP. -/
def lineUp (s : State) : State := { s with line := { s.line with up := true, link := true } }

/-- The active record with the line disabled. -/
def disabled (s : State) : State := s.setAccord { s.accord with config := { s.accord.config with lineEnable := false } }

/-- A pending proposal of H0 with H1 a voter. -/
def proposal (v : Vote) (window : Nat) : Proposal :=
  { proposer := .h0, serial := 1, base := 0, record := .initial, votes := ⟨none, some v, none, none⟩, window := window }

/-- A state with that proposal pending. -/
def proposing (q : Proposal) (s : State) : State := s.setAccord { s.accord with lastSerial := 1, proposal := some q }

/-! ### WellFormed -/

theorem test_wellFormed_request : WellFormed (.attach .h0 (requestBytes 0x01 7 [])) = true := by decide
theorem test_wellFormed_incomplete : WellFormed (.attach .h0 [0, 7, 0, 0]) = false := by decide
theorem test_wellFormed_trailing : WellFormed (.attach .h0 (requestBytes 0x01 7 [] ++ [0])) = false := by decide
theorem test_wellFormed_unknown : WellFormed (.unknownCommand .h0 0x09 (requestBytes 0x09 7 [])) = true := by decide
theorem test_wellFormed_unknown_that_names_a_command :
    WellFormed (.unknownCommand .h0 0x01 (requestBytes 0x01 7 [])) = false := by decide
theorem test_wellFormed_unknown_incomplete : WellFormed (.unknownCommand .h0 0x09 [0, 7]) = false := by decide
theorem test_wellFormed_event : WellFormed (.stageHoldExpiry 63) = true := by decide

/-! ### Values worked out by hand from the rules -/

/-- The check byte of an ATTACH with tag 0x0102: 01 + 01 + 02 + 00 + 00 + FC = 256 (R173, section 11.1). -/
theorem test_request_bytes : requestBytes 0x01 0x0102 [] = [0x01, 0x02, 0x00, 0x00, 0xFC] := by decide

/-- The frame check of "123456789" by the generator of R88: the well-known check value CBF43926, first byte 26. -/
theorem test_frame_check :
    frameCheck [0x31, 0x32, 0x33, 0x34, 0x35, 0x36, 0x37, 0x38, 0x39] = [0x26, 0x39, 0xF4, 0xCB] := by decide +kernel

/-- A length above 1,530 takes the request at its five header bytes (R172): 1,530 is 05FA. -/
theorem test_request_end_at_header :
    requestEnd [0x40, 0, 0, 0x05, 0xFB] = some 5 ∧ requestEnd [0x40, 0, 0, 0x05, 0xFA] = none := by decide

/-- A group address has bit 0 of its first octet set (00_scope). -/
theorem test_group_indicator :
    isGroupAddress 0x010000000000 = true ∧ isGroupAddress 0x024A110007C3 = false ∧ isGroupAddress broadcastAddress = true := by
  decide

/-- 128 stored bytes fill one cell and 129 take a second; the longest frame takes 12 (R66). -/
theorem test_cells_for : cellsFor 60 = 1 ∧ cellsFor 128 = 1 ∧ cellsFor 129 = 2 ∧ cellsFor 1514 = 12 := by decide

/-- A counter and a lost count stop at their bounds (00_scope, R182). -/
theorem test_counters_stop :
    bump 4294967294 = 4294967295 ∧ bump 4294967295 = 4294967295 ∧ bumpSmall 254 = 255 ∧ bumpSmall 255 = 255 := by decide

/-- The circular order after H3 begins with H0 (R145). -/
theorem test_circle : circleAfter .h3 = [.h0, .h1, .h2, .h3] := by decide

/-- The initial configuration record on the wire (R158, section 11.8). -/
theorem test_initial_record_bytes :
    configRecordBytes .initial = [2, 20, 50, 30, 100, 0, 0xFF, 1, 16, 16, 16, 16, 0, 96, 0, 96, 0, 96, 0, 96] := by decide

/-- An unlisted byte of the store reads 0, and a byte written reads back. -/
theorem test_store : storeRead [] 9 = 0 ∧ storeRead (storeWrite [] 9 7) 9 = 7 ∧ storeWrite [(9, 7)] 9 0 = [] := by decide

/-- ATTACH answered to H2: OK, tag, length 3, port 2, generation 0, check byte (R178, section 11.1). -/
theorem test_attach_response :
    (match exec (.attach .h2 (requestBytes 0x01 0x0102 [])) (select .h2 .reset) with
      | .next t => (t.port .h2).response
      | _ => []) = [0x00, 0x01, 0x02, 0x00, 0x03, 0x02, 0x00, 0x00, 0xF8] := by decide +kernel

/-- DOZE from ASLEEP is refused ASLEEP, status 06 (R122, R124). -/
theorem test_doze_asleep :
    (match exec (.doze .h0 (requestBytes 0x38 0 [])) asleep with
      | .next t => (t.port .h0).response
      | _ => []) = [0x06, 0x00, 0x00, 0x00, 0x00, 0xFA] := by decide +kernel

/-! ### Facts about the small states -/

theorem ready_running : running.Ready .h0 := ⟨⟨rfl, rfl, rfl, rfl⟩, .inl rfl⟩

theorem heard_asleep : asleep.Heard .h0 ∧ asleep.asleep .h0 = true := ⟨⟨⟨rfl, rfl, rfl, rfl⟩, by decide⟩, by decide⟩

theorem listening_detached : detached.Listening .h0 ∧ (detached.host .h0).reach = .detached :=
  ⟨⟨rfl, rfl, rfl, rfl⟩, by decide⟩

theorem ready_holding (u : EntryUse) : (holding u running).Ready .h0 := ⟨⟨rfl, rfl, rfl, rfl⟩, .inl rfl⟩

theorem heard_holding (u : EntryUse) : (holding u running).Heard .h0 := (ready_holding u).heard

theorem asleep_running : running.asleep .h0 = false := by decide

theorem asleep_holding (u : EntryUse) : (holding u running).asleep .h0 = false := asleep_running

theorem use_holding (u : EntryUse) (s : State) : ((holding u s).entry 63).use = u := by simp [holding]

theorem generation_holding (u : EntryUse) (s : State) : ((holding u s).entry 63).generation = 5 := by simp [holding]

theorem holds_holding (c : Claim) (s : State) (h : c.owner = .h0) : (holding (.unicast c) s).Holds .h0 63 5 c :=
  ⟨generation_holding _ s, use_holding _ s, h⟩

theorem entry_running (i : Index) : running.entry i = Entry.reset := by
  simp [running, select, attach, State.reset, State.entry]

theorem entry_holding (u : EntryUse) (i : Index) :
    (holding u running).entry i = if i = 63 then ⟨5, u⟩ else Entry.reset := by
  simp only [holding, State.entry_setEntry, entry_running]

/-- No entry holds an address in a table that is FREE but for one entry with another address. -/
theorem no_holder (u : EntryUse) (a : Address) (h : Entry.address? ⟨5, u⟩ ≠ some a) (j : Index) :
    ((holding u running).entry j).address? ≠ some a := by
  rw [entry_holding]
  split
  · exact h
  · simp [Entry.reset, Entry.address?]

/-- A table with one lawful entry has the laws of the table. -/
theorem tableLaw_holding (u : EntryUse) (hu : u.Lawful) : (holding u running).TableLaw := by
  constructor
  · intro i
    rw [entry_holding]
    split
    · exact hu
    · trivial
  · intro i j hi e
    have key (k : Index) (hk : ((holding u running).entry k).address? ≠ none) : k = 63 := by
      by_contra hne
      rw [entry_holding, if_neg hne] at hk
      exact hk rfl
    rw [key i hi, key j (e ▸ hi)]

theorem tableLaw_running : running.TableLaw := by
  constructor
  · intro i; rw [entry_running]; trivial
  · intro i j hi; rw [entry_running] at hi; exact absurd rfl hi

theorem firstFree_running : running.FirstFree 0 :=
  ⟨by rw [entry_running]; rfl, fun j hj => absurd hj (Fin.not_lt_zero j)⟩

theorem lawful_live : live.Lawful := by constructor <;> simp [live, isGroupAddress, ClaimState.staged, Claim.bound]
theorem lawful_staged (n : Nat) (hn : n ≤ 255) : (staged .probed n).Lawful := by
  constructor <;> simp [staged, live, isGroupAddress, ClaimState.staged, Claim.bound, hn]
theorem lawful_probing (n : Nat) (hn : n ≤ 255) : (staged .probing n).Lawful := by
  constructor <;> simp [staged, live, isGroupAddress, ClaimState.staged, Claim.bound, hn]
theorem lawful_conflicted (n : Nat) (hn : n ≤ 255) : (staged .conflicted n).Lawful := by
  constructor <;> simp [staged, live, isGroupAddress, ClaimState.staged, Claim.bound, hn]
theorem lawful_leased : leased.Lawful := by
  constructor <;> simp [leased, live, isGroupAddress, ClaimState.staged, Claim.bound]
theorem lawful_lapsing : lapsing.Lawful := by
  constructor <;> simp [lapsing, live, isGroupAddress, ClaimState.staged, Claim.bound]
theorem lawful_offered : (offered live 255).Lawful := by
  constructor <;> simp [offered, live, isGroupAddress, ClaimState.staged, Claim.bound]
theorem lawful_group (h : HostId) : (group h).Lawful := by
  constructor
  · exact (by decide : isGroupAddress 0x01005E000001 = true)
  · exact (by decide : (0x01005E000001 : Address) ≠ broadcastAddress)
  · cases h <;> decide
  · exact Nat.zero_le _

/-! ### Witnesses: states and operands that meet the hypotheses of each statement, clause by clause -/

theorem test_meets_StepRunsTheFrontCommand :
    ({ running with pending := [.tick, .grant] } : State).pending = [.tick, .grant] ∧ running.pending = [] := ⟨rfl, rfl⟩

theorem test_meets_DeviceResetBeginsAndEnds : resetting.resetting = some .resetPin ∧ running.resetting = none :=
  ⟨rfl, rfl⟩

theorem test_meets_DuringDeviceResetNoEventIsTaken : resetting.resetting ≠ none := by decide

theorem test_meets_SelectAndPortResetAtAPort :
    (State.reset.resetting = none ∧ (State.reset.ports.get .h3).held = false ∧ (State.reset.ports.get .h3).phase = .idle ∧
      (State.reset.host .h3).reach = .detached) ∧
    ((State.reset.setHeld .h3 true).ports.get .h3).held = true ∧ (running.ports.get .h0).phase ≠ .idle := by decide

/-- The port of host H0 with the first three bytes of a READ_TICK in its request buffer. -/
def half : State := running.setPort .h0 { running.port .h0 with request := [0x08, 0, 0] }

/-- No transaction; a row that completes no request; the rest of a READ_TICK with two bytes after it; a response with its
first byte next, with no byte left, and a port held. -/
theorem test_meets_BytesShiftedInByPhase :
    ((Instr.stage .h0 [0, 1]).Spells .h0 [0x10, 0, 1]) ∧ ((State.reset.ports.get .h0).phase = .idle) ∧
    ((running.ports.get .h0).held = false ∧ (running.ports.get .h0).phase = .request ∧
      requestEnd ((running.ports.get .h0).request ++ [0x10, 0, 1]) = none) ∧
    ((half.ports.get .h0).held = false ∧ (half.ports.get .h0).phase = .request ∧ half.resetting = none ∧
      (Instr.unknownCommand .h0 0 [0, 0xF8, 0x55, 0x66]).Spells .h0 [0, 0, 0xF8, 0x55, 0x66] ∧
      requestEnd ((half.ports.get .h0).request ++ [0, 0, 0xF8, 0x55, 0x66]) = some 6 ∧
      (Instr.readTick .h0 [0, 0, 0, 0, 0xF8]).Spells .h0
        (((half.ports.get .h0).request ++ [0, 0, 0xF8, 0x55, 0x66]).take 6)) ∧
    (((answering .h0 running).ports.get .h0).phase = .response ∧ ((answering .h0 running).ports.get .h0).held = false ∧
      ((answering .h0 running).ports.get .h0).response[((answering .h0 running).ports.get .h0).shifted]? = some 0) ∧
    (let s := (answering .h0 running).setPort .h0 { (answering .h0 running).port .h0 with shifted := 3 }
     (s.ports.get .h0).response.length ≤ (s.ports.get .h0).shifted) ∧
    ((running.setHeld .h0 true).ports.get .h0).held = true :=
  ⟨.inl ⟨.stage, [0, 1], rfl, rfl⟩, rfl, ⟨rfl, rfl, rfl⟩,
    ⟨rfl, rfl, rfl, .inr ⟨0, _, rfl, rfl⟩, by decide, .inl ⟨.readTick, _, rfl, rfl⟩⟩, ⟨rfl, rfl, rfl⟩, by decide, rfl⟩

/-- The rows: a header of length 1,531; a wrong check byte; code 09; ATTACH of length 1; READ_TICK; ATTACH. -/
theorem test_meets_GenericChecksInOrder :
    (running.Listening .h0 ∧ detached.Listening .h0) ∧
    ((Instr.submit .h0 [0, 0, 5, 0xFB]).Spells .h0 [0x40, 0, 0, 5, 0xFB] ∧ 1530 < requestLength [0x40, 0, 0, 5, 0xFB]) ∧
    (byteSum [0x01, 0, 0, 0, 0, 0] ≠ 0 ∧ requestLength [0x01, 0, 0, 0, 0, 0] = 0) ∧
    (byteSum [0x09, 0, 0, 0, 0, 0xF7] = 0 ∧ Command.ofCode (byteAt [0x09, 0, 0, 0, 0, 0xF7] 0) = none) ∧
    (byteSum [0x01, 0, 0, 0, 1, 0, 0xFE] = 0 ∧ Command.ofCode (byteAt [0x01, 0, 0, 0, 1, 0, 0xFE] 0) = some .attach ∧
      Command.attach.admitsLength (requestLength [0x01, 0, 0, 0, 1, 0, 0xFE]) = false) ∧
    (byteSum [0x08, 0, 0, 0, 0, 0xF8] = 0 ∧ Command.ofCode (byteAt [0x08, 0, 0, 0, 0, 0xF8] 0) = some .readTick ∧
      Command.readTick.admitsLength 0 = true ∧ (detached.host .h0).reach = .detached) ∧
    (byteSum [0x01, 0, 0, 0, 0, 0xFF] = 0 ∧ Command.ofCode (byteAt [0x01, 0, 0, 0, 0, 0xFF] 0) = some .attach ∧
      Command.attach.admitsLength 0 = true ∧ (running.host .h0).reach ≠ .detached) :=
  ⟨⟨ready_running.listening, listening_detached.1⟩, ⟨.inl ⟨.submit, [0, 0, 5, 0xFB], rfl, rfl⟩, by decide⟩, by decide,
    by decide, by decide, by decide, by decide⟩

theorem test_meets_CommandsOfAnAsleepOrDetachedHost :
    (asleep.Listening .h0 ∧ asleep.asleep .h0 = true ∧ Command.submit.admitsLength 1530 = true ∧
      Command.submit.whileAsleep = false) ∧
    (Command.readTick.admitsLength 0 = true ∧ Command.readTick.whileAsleep = true) ∧
    (detached.Listening .h0 ∧ (detached.host .h0).reach = .detached) :=
  ⟨⟨heard_asleep.1.listening, heard_asleep.2, by decide, rfl⟩, by decide, listening_detached⟩

theorem test_meets_EveryWholeRequestIsAnswered :
    (Instr.readTick .h0 [0, 0, 0, 0, 0xF8]).Spells .h0 [0x08, 0, 0, 0, 0, 0xF8] ∧ running.Listening .h0 ∧
      requestEnd [0x08, 0, 0, 0, 0, 0xF8] = some 6 :=
  ⟨.inl ⟨.readTick, [0, 0, 0, 0, 0xF8], rfl, rfl⟩, ready_running.listening, by decide⟩

/-- A DOZE of a host asleep is refused, and so is a SUBMIT of no byte. -/
theorem test_meets_RefusedRequestsChangeNothing :
    ((Instr.doze .h0 [0, 0, 0, 0, 0xC8]).Spells .h0 [0x38, 0, 0, 0, 0, 0xC8] ∧ asleep.Listening .h0 ∧
      requestEnd [0x38, 0, 0, 0, 0, 0xC8] = some 6 ∧
      ∃ t, exec (.doze .h0 [0, 0, 0, 0, 0xC8]) asleep = .next t ∧ (t.port .h0).response.head? ≠ some 0x00) ∧
    ((Instr.submit .h0 [0, 0, 0, 0, 0xC0]).Spells .h0 [0x40, 0, 0, 0, 0, 0xC0] ∧ running.Listening .h0 ∧
      ∃ t, exec (.submit .h0 [0, 0, 0, 0, 0xC0]) running = .next t ∧ (t.port .h0).response.head? ≠ some 0x00) :=
  ⟨⟨.inl ⟨.doze, _, rfl, rfl⟩, heard_asleep.1.listening, by decide, _, rfl, by decide +kernel⟩,
    .inl ⟨.submit, _, rfl, rfl⟩, ready_running.listening, _, rfl, by decide +kernel⟩

theorem test_meets_AttachMakesTheHostAwake : detached.Listening .h0 ∧ (detached.host .h0).reach = .detached :=
  listening_detached

/-- H0, H1 and H2 attached, with a proposal of `h` and some votes that disables the line, while the line receives; a claim
of H0 offered to H1, a claim of H1 offered to H0, a group of H0, and a frame in H0's receive queue. -/
def parting (h : HostId) (v0 v1 v2 : Option Vote) : State :=
  let s := (attach .h2 running).setEntry 63 ⟨5, .unicast (offered live 255)⟩
  let s := s.setEntry 62 ⟨4, .unicast { live with address := 0x024A11000002, owner := .h1, offer := some ⟨.h0, 0⟩ }⟩
  let s := (s.setEntry 61 ⟨3, .group (group .h0)⟩).setReception (some (reception 9 [] false))
  let s := (s.setRecord 126 (some (record 1))).setRecord 127 (some (receiving false [1]))
  let s := s.setHost .h0 { s.host .h0 with rxQueue := [⟨126, 0, false⟩] }
  let off := { ConfigRecord.initial with lineEnable := false }
  proposing { proposal .outstanding 9 with proposer := h, record := off, votes := ⟨v0, v1, v2, none⟩ } s

/-- The proposer detaches; a voter detaches that leaves an outstanding vote, and one that leaves none, whose detach applies
the proposal and loses the reception; a host without a part in the proposal detaches. -/
theorem test_meets_DetachCleansUp :
    (∀ (h : HostId) (v0 v1 v2 : Option Vote), (parting h v0 v1 v2).Heard .h0 ∧ (parting h v0 v1 v2).resetting = none ∧
      ((parting h v0 v1 v2).host .h0).reach ≠ .detached) ∧
    ((parting .h0 none (some .endorsed) (some .outstanding)).accordNotices .h0 .h2 =
        [.accordOutcome .withdrawn 1 none] ∧
      (parting .h1 (some .outstanding) none (some .outstanding)).detachApplies .h0 = none ∧
      (parting .h1 (some .outstanding) none (some .endorsed)).detachLoses .h0 = [127] ∧
      (parting .h1 none none (some .outstanding)).accordNotices .h0 .h2 = []) ∧
    ((127 : Handle) ∉ (parting .h1 (some .outstanding) none (some .endorsed)).positionHandles .h0 ∧
      (parting .h1 (some .outstanding) none (some .endorsed)).line.reception = some (reception 9 [] false)) ∧
    (parting .h1 (some .outstanding) none (some .endorsed)).record 127 = some (receiving false [1]) ∧
    (parting .h1 (some .outstanding) none (some .endorsed)).detachNotices .h0 .h1 =
      [.offerResolved ⟨63, 5⟩ .withdrawn .h0 5, .offerResolved ⟨62, 4⟩ .refused .h0 4, .accordOutcome .applied 1 none,
        .configApplied 1] := by
  refine ⟨fun h v0 v1 v2 => ⟨⟨⟨rfl, rfl, rfl, rfl⟩, Reach.noConfusion⟩, rfl, Reach.noConfusion⟩, by decide +kernel,
    by decide +kernel, ?_, by decide +kernel⟩
  simp [parting, proposing]

theorem test_meets_StatusReadsOfEveryHost : running.Listening .h0 ∧ (running.host .h0).reach ≠ .detached :=
  ⟨ready_running.listening, by decide⟩

/-- `n` notices in H0's list. -/
def noticed (n : Nat) : State :=
  running.setHost .h0 { running.host .h0 with notices := List.replicate n ⟨.lineUp, 0⟩ }

/-- A list of 15 records and one of 16. -/
theorem test_meets_NoticeListKeepsAndGivesNotices :
    (State.reset.host .h0).reach = .detached ∧
    (running.host .h0).reach ≠ .detached ∧
    (((noticed 15).host .h0).notices.length < 16 ∧ ((noticed 15).host .h0).reach ≠ .detached) ∧
    (16 ≤ ((noticed 16).host .h0).notices.length ∧ ((noticed 16).host .h0).reach ≠ .detached) ∧
    [HostId.h0, .h1].Nodup ∧ running.Heard .h0 := by
  exact ⟨by decide, by decide, by decide, by decide, by decide, ready_running.heard⟩

theorem test_meets_MaskAndSidebandLines :
    running.Ready .h0 ∧ (0x8000 : Word16).getLsbD 15 = true ∧ (0x7FFF : Word16).getLsbD 15 = false ∧
      (running.host .h0).mask = some 0x7FFF ∧ (running.host .h2).mask = none ∧ (running.host .h2).reach = .detached :=
  ⟨ready_running, by decide, by decide, rfl, rfl, rfl⟩

theorem test_meets_CountersReadAndCleared : running.Ready .h0 := ready_running

/-! The station table. -/

/-- A table of 64 groups, no entry FREE. -/
def full : State :=
  { running with
    table := ⟨⟨(List.range 64).map (fun k =>
      { generation := 1
        use := .group { address := BitVec.ofNat 48 (0x010000000000 + k), members := noHosts.set .h0 true, hits := 0 } })⟩,
      by simp⟩ }

theorem entry_full (i : Index) :
    full.entry i =
      { generation := 1
        use := .group
          { address := BitVec.ofNat 48 (0x010000000000 + i.val), members := noHosts.set .h0 true, hits := 0 } } := by
  simp [full, State.entry]

theorem tableLaw_full : full.TableLaw := by
  have key : ∀ i : Index, isGroupAddress (BitVec.ofNat 48 (0x010000000000 + i.val)) = true ∧
      BitVec.ofNat 48 (0x010000000000 + i.val) ≠ broadcastAddress := by decide +kernel
  constructor
  · intro i
    rw [entry_full]
    exact ⟨(key i).1, (key i).2, show (noHosts.set HostId.h0 true).members ≠ [] by decide, Nat.zero_le _⟩
  · intro i j _ e
    rw [entry_full, entry_full] at e
    have h : (BitVec.ofNat 48 (0x010000000000 + i.val)).toNat = (BitVec.ofNat 48 (0x010000000000 + j.val)).toNat :=
      congrArg BitVec.toNat (Option.some.inj e)
    have hi := i.isLt
    have hj := j.isLt
    simp only [Config.tableSize, BitVec.toNat_ofNat] at hi hj h
    exact Fin.ext (by omega)

/-- Entry limits of 1. -/
def limited (s : State) : State := s.setAccord { s.accord with config := { s.accord.config with entryLimit := .same 1 } }

/-- H0 with one claim and an entry limit of 1. -/
def atLimit : State := limited (holding (.unicast live) running)

/-- A claim of H1. -/
def theirs (c : Claim) : Claim := { c with owner := .h1 }

/-- The refused values are the first beyond their ranges; the claims are H0's and H1's, staged and bound; the limit, the
table and the entry are at their bounds. -/
theorem test_meets_StageClaimsTheLowestFreeEntry :
    (asleep.Heard .h0 ∧ asleep.asleep .h0 = true ∧ asleep.TableLaw) ∧
    (running.Heard .h0 ∧ running.asleep .h0 = false ∧ running.TableLaw ∧ running.FirstFree 0 ∧
      (∀ j, (running.entry j).address? ≠ some 0x024A11000001) ∧
      running.holdings .h0 < running.accord.config.entryLimit.get .h0) ∧
    (isGroupAddress broadcastAddress = true ∧ 2 < (3 : Byte).toNat ∧ (1 : Byte) ≠ 0) ∧
    (∀ c : Claim, c.Lawful → (holding (.unicast c) running).Heard .h0 ∧ (holding (.unicast c) running).TableLaw ∧
      ((holding (.unicast c) running).entry 63).use = .unicast c) ∧
    (live.Lawful ∧ live.owner = .h0 ∧ (theirs live).Lawful ∧ (theirs live).owner ≠ .h0 ∧
      live.state.staged = false ∧ (theirs (staged .probed 0)).Lawful ∧
      (staged .probed 0).state.staged = true) ∧
    (atLimit.TableLaw ∧ atLimit.Heard .h0 ∧ atLimit.accord.config.entryLimit.get .h0 ≤ atLimit.holdings .h0 ∧
      ∀ j, (atLimit.entry j).address? ≠ some 0x024A11000002) ∧
    (full.Heard .h0 ∧ full.TableLaw ∧ (∀ j, (full.entry j).use ≠ .free) ∧
      (∀ j, (full.entry j).address? ≠ some 0x024A11000001) ∧ full.holdings .h0 < full.accord.config.entryLimit.get .h0) ∧
    ((0 : Byte) = byte SleepAction.wake.code ∧ (2 : Byte) = byte LeaseMode.activity.code) := by
  refine ⟨⟨heard_asleep.1, heard_asleep.2, ⟨tableLaw_running.1, tableLaw_running.2⟩⟩,
    ⟨ready_running.heard, asleep_running, tableLaw_running, firstFree_running, fun j => ?_, by decide +kernel⟩, by decide,
    fun c hc => ⟨heard_holding _, tableLaw_holding _ hc, use_holding _ _⟩,
    ⟨lawful_live, rfl, ?_, by decide, rfl, ?_, rfl⟩, ?_, ?_, by decide⟩
  · simp [entry_running, Entry.reset, Entry.address?]
  · constructor <;> simp [theirs, live, isGroupAddress, ClaimState.staged, Claim.bound]
  · constructor <;> simp [theirs, staged, live, isGroupAddress, ClaimState.staged, Claim.bound]
  · have h := tableLaw_holding (.unicast live) lawful_live
    exact ⟨⟨h.1, h.2⟩, ⟨⟨rfl, rfl, rfl, rfl⟩, by decide⟩, by decide +kernel, no_holder _ _ (by decide)⟩
  · refine ⟨⟨⟨rfl, rfl, rfl, rfl⟩, by decide⟩, tableLaw_full, fun j => ?_, fun j => ?_, by decide +kernel⟩
    · rw [entry_full]; simp
    · have hj := j.isLt
      simp only [Config.tableSize] at hj
      rw [entry_full]
      intro e
      have h : (0x010000000000 + j.val) % 2 ^ 48 = 0x024A11000001 := congrArg BitVec.toNat (Option.some.inj e)
      omega

/-- The index bytes 63 and 64; a reference that is not current; a claim of H0 in each state. -/
theorem test_meets_BindTakesAProbedClaimToLive :
    (asleep.Heard .h0 ∧ asleep.asleep .h0 = true) ∧ (63 < (64 : Byte).toNat ∧ (63 : Byte) = byte (63 : Index).val) ∧
    ((holding (.unicast live) running).Heard .h0 ∧ (holding (.unicast live) running).asleep .h0 = false ∧
      ¬ ∃ c, (holding (.unicast live) running).Holds .h0 63 4 c) ∧
    ∀ c ∈ [staged .probing 0, staged .probed 0, staged .conflicted 255, live, lapsing],
      (holding (.unicast c) running).Holds .h0 63 5 c ∧ c.Lawful := by
  refine ⟨heard_asleep, by decide, ⟨heard_holding _, asleep_holding _, ?_⟩, fun c hc => ?_⟩
  · rintro ⟨c, hc⟩
    exact absurd (hc.generation.symm.trans (generation_holding _ _)) (by decide)
  · simp only [List.mem_cons, List.not_mem_nil, or_false] at hc
    rcases hc with rfl | rfl | rfl | rfl | rfl
    · exact ⟨holds_holding _ _ rfl, lawful_probing 0 (by decide)⟩
    · exact ⟨holds_holding _ _ rfl, lawful_staged 0 (by decide)⟩
    · exact ⟨holds_holding _ _ rfl, lawful_conflicted 255 (by decide)⟩
    · exact ⟨holds_holding _ _ rfl, lawful_live⟩
    · exact ⟨holds_holding _ _ rfl, lawful_lapsing⟩

/-- A claim of H0 without an offer, and one with; the refused hypotheses are those of BIND. -/
theorem test_meets_YieldFreesTheClaim :
    ((holding (.unicast live) running).Heard .h0 ∧ (holding (.unicast live) running).asleep .h0 = false ∧
      (holding (.unicast live) running).Holds .h0 63 5 live ∧ live.offer = none) ∧
    (holding (.unicast (offered live 255)) running).Holds .h0 63 5 (offered live 255) ∧
      (offered live 255).offer = some ⟨.h1, 255⟩ :=
  ⟨⟨heard_holding _, asleep_holding _, holds_holding _ _ rfl, rfl⟩, holds_holding _ _ rfl, rfl⟩

theorem test_meets_SetActionChangesTheSleepAction :
    (2 < (3 : Byte).toNat ∧ (2 : Byte) = byte SleepAction.drop.code) ∧
    ((holding (.unicast live) running).Heard .h0 ∧ (holding (.unicast live) running).Holds .h0 63 5 live ∧
      live.state.staged = false) ∧
    (holding (.unicast (staged .probing 0)) running).Holds .h0 63 5 (staged .probing 0) ∧
      (staged .probing 0).state.staged = true :=
  ⟨by decide, ⟨heard_holding _, holds_holding _ _ rfl, rfl⟩, holds_holding _ _ rfl, rfl⟩

/-- A group of H0 and H1. -/
def both : Group := { group .h0 with members := ⟨true, true, false, false⟩ }

theorem lawful_both : both.Lawful :=
  ⟨(lawful_group .h0).address_group, (lawful_group .h0).address_not_broadcast,
    show (⟨true, true, false, false⟩ : PerHost Bool).members ≠ [] by decide, Nat.zero_le _⟩

/-- An address below the group addresses and the broadcast address; a group with and without H0, and with H0 alone; no
group with the address, with a FREE entry and without one. -/
theorem test_meets_JoinAndLeaveChangeTheMembers :
    (isGroupAddress 0x00FFFFFFFFFF = false ∧ isGroupAddress 0x01005E000001 = true) ∧
    (∀ g ∈ [group .h0, group .h1, both],
      (holding (.group g) running).Heard .h0 ∧ (holding (.group g) running).asleep .h0 = false ∧
        (holding (.group g) running).TableLaw ∧ ((holding (.group g) running).entry 63).use = .group g ∧
        g.address = 0x01005E000001) ∧
    ((group .h0).members.get .h0 = true ∧ (∀ k, k ≠ HostId.h0 → (group .h0).members.get k = false) ∧
      (group .h1).members.get .h0 = false ∧ both.members.get .h0 = true ∧ both.members.get .h1 = true) ∧
    (running.Heard .h0 ∧ running.TableLaw ∧ (∀ j, (running.entry j).address? ≠ some 0x01005E000001) ∧
      running.FirstFree 0) ∧
    (full.TableLaw ∧ (∀ j, (full.entry j).use ≠ .free)) := by
  refine ⟨by decide, fun g hg => ?_, ⟨by decide, fun k hk => ?_, by decide, by decide, by decide⟩,
    ⟨ready_running.heard, tableLaw_running, fun j => ?_, firstFree_running⟩, tableLaw_full, fun j => ?_⟩
  · have hl : g.Lawful ∧ g.address = 0x01005E000001 := by
      simp only [List.mem_cons, List.not_mem_nil, or_false] at hg
      rcases hg with rfl | rfl | rfl
      · exact ⟨lawful_group _, rfl⟩
      · exact ⟨lawful_group _, rfl⟩
      · exact ⟨lawful_both, rfl⟩
    exact ⟨heard_holding _, asleep_holding _, tableLaw_holding _ hl.1, use_holding _ _, hl.2⟩
  · cases k
    · exact absurd rfl hk
    all_goals decide
  · simp [entry_running, Entry.reset, Entry.address?]
  · simp [entry_full]

/-- The target byte 4, H0 itself, the DETACHED H2 and the attached H1; a claim that is not LIVE, one that is offered, and
one that is free to be offered. -/
theorem test_meets_OfferNamesTheTarget :
    (3 < (4 : Byte).toNat ∧ (0 : Byte) = byte HostId.h0.toNat ∧ (running.host .h2).reach = .detached) ∧
    (¬ (63 < (63 : Byte).toNat ∨ 3 < (1 : Byte).toNat ∨
      ∃ k : HostId, (1 : Byte) = byte k.toNat ∧
        (k = .h0 ∨ ((holding (.unicast live) running).host k).reach = .detached))) ∧
    ∀ c ∈ [lapsing, offered live 255, live],
      (holding (.unicast c) running).Heard .h0 ∧ (holding (.unicast c) running).Holds .h0 63 5 c := by
  refine ⟨by decide, ?_, fun c hc => ⟨heard_holding _, holds_holding _ _ ?_⟩⟩
  · rintro (h | h | ⟨k, h, hk⟩)
    · exact absurd h (by decide)
    · exact absurd h (by decide)
    · cases k <;> first | exact absurd h (by decide) | skip
      rcases hk with hk | hk
      · exact absurd hk (by decide)
      · exact absurd hk (by decide)
  · simp only [List.mem_cons, List.not_mem_nil, or_false] at hc
    rcases hc with rfl | rfl | rfl <;> rfl

/-- A claim of H1 offered to H0. -/
def toMe (c : Claim) : Claim := { c with owner := .h1, offer := some ⟨.h0, 0⟩ }

/-- An offer to H0 of a LIVE and of a LAPSING claim, with the limit free and at its bound; a claim with no offer to H0. -/
theorem test_meets_AcceptPassesTheClaim :
    (∀ c ∈ [live, lapsing],
      (holding (.unicast (toMe c)) running).Heard .h0 ∧
        ((holding (.unicast (toMe c)) running).entry 63).use = .unicast (toMe c) ∧
        ((holding (.unicast (toMe c)) running).entry 63).generation = 5 ∧ (toMe c).offer = some ⟨.h0, 0⟩ ∧
        (toMe c).Lawful) ∧
    (holding (.unicast (toMe live)) running).holdings .h0 <
      (holding (.unicast (toMe live)) running).accord.config.entryLimit.get .h0 ∧
    (let s := limited ((holding (.unicast (toMe live)) running).setEntry 0 ⟨1, .unicast live⟩)
     s.accord.config.entryLimit.get .h0 ≤ s.holdings .h0) ∧
    ((holding (.unicast (offered live 255)) running).entry 63).use = .unicast (offered live 255) ∧
      (offered live 255).offer = some ⟨.h1, 255⟩ := by
  refine ⟨fun c hc => ⟨heard_holding _, use_holding _ _, generation_holding _ _, rfl, ?_⟩, by decide +kernel,
    by decide +kernel, use_holding _ _, rfl⟩
  simp only [List.mem_cons, List.not_mem_nil, or_false] at hc
  rcases hc with rfl | rfl
  · constructor <;> simp [toMe, live, isGroupAddress, ClaimState.staged, Claim.bound]
  · constructor <;> simp [toMe, lapsing, live, isGroupAddress, ClaimState.staged, Claim.bound]

theorem test_meets_RefuseAndRetractClearTheOffer :
    (((holding (.unicast (toMe live)) running).entry 63).use = .unicast (toMe live) ∧
      (toMe live).offer = some ⟨.h0, 0⟩ ∧ (holding (.unicast (toMe live)) running).Heard .h0) ∧
    (holding (.unicast (offered lapsing 0)) running).Holds .h0 63 5 (offered lapsing 0) ∧
    (holding (.unicast live) running).Holds .h0 63 5 live :=
  ⟨⟨use_holding _ _, rfl, heard_holding _⟩, holds_holding _ _ rfl, holds_holding _ _ rfl⟩

/-- A staged claim, a PINNED one, a LIVE ACTIVITY one with reload 1, and a LAPSING FIXED one with reload 65,535. -/
theorem test_meets_RenewGivesAFullLease :
    ((holding (.unicast (staged .probed 0)) running).Holds .h0 63 5 (staged .probed 0) ∧
      (staged .probed 0).state.staged = true) ∧
    ((holding (.unicast live) running).Holds .h0 63 5 live ∧ live.mode = .pinned) ∧
    ((holding (.unicast leased) running).Holds .h0 63 5 leased ∧ leased.Lawful ∧ leased.reload = some 1) ∧
    (holding (.unicast lapsing) running).Holds .h0 63 5 lapsing ∧ lapsing.Lawful ∧ lapsing.reload = some 65535 :=
  ⟨⟨holds_holding _ _ rfl, rfl⟩, ⟨holds_holding _ _ rfl, rfl⟩, ⟨holds_holding _ _ rfl, lawful_leased, rfl⟩,
    holds_holding _ _ rfl, lawful_lapsing, rfl⟩

/-- A table with one entry in each use: FREE, a group with H0 and one without, a claim of H0, one of H1, and one offered to
H0. -/
theorem test_meets_TableReads :
    (∀ u ∈ [EntryUse.free, .group (group .h0), .group (group .h1), .unicast live, .unicast (theirs live),
        .unicast (toMe live)],
      (holding u running).Ready .h0 ∧ (holding u running).TableLaw ∧ ((holding u running).entry 63).use = u) ∧
    (63 < (64 : Byte).toNat ∧ 1 < (2 : Byte).toNat) ∧
    ((group .h0).members.get .h0 = true ∧ (group .h1).members.get .h0 = false) ∧
    (live.owner = .h0 ∧ (theirs live).owner ≠ .h0 ∧ (toMe live).owner ≠ .h0 ∧ (toMe live).offer = some ⟨.h0, 0⟩) ∧
    ((holding (.unicast live) running).entry 63).address? = some 0x024A11000001 ∧
    ∀ j, ((holding (.unicast live) running).entry j).address? ≠ some 0x024A11000002 := by
  refine ⟨fun u hu => ⟨ready_holding _, tableLaw_holding _ ?_, use_holding _ _⟩, by decide, by decide, by decide,
    by simp [holding, Entry.address?, live], no_holder _ _ (by decide)⟩
  simp only [List.mem_cons, List.not_mem_nil, or_false] at hu
  rcases hu with rfl | rfl | rfl | rfl | rfl | rfl
  · trivial
  · exact lawful_group _
  · exact lawful_group _
  · exact lawful_live
  · constructor <;> simp [theirs, live, isGroupAddress, ClaimState.staged, Claim.bound]
  · constructor <;> simp [toMe, live, isGroupAddress, ClaimState.staged, Claim.bound]

/-- Timers at 0 and at 1, in each staged state; an offer at 0 and at 1; an entry that is no claim. -/
theorem test_meets_StageAndOfferExpiries :
    (∀ u : EntryUse, (holding u running).resetting = none ∧ ((holding u running).entry 63).use = u) ∧
    ((staged .probing 0).stageTimer = some 0 ∧ (staged .probing 1).stageTimer ≠ some 0 ∧
      (staged .probed 0).stageTimer = some 0 ∧ (staged .conflicted 0).stageTimer = some 0) ∧
    ((offered live 0).offer = some ⟨.h1, 0⟩ ∧ (offered live 1).offer = some ⟨.h1, 1⟩ ∧ live.offer = none) ∧
    (running.entry 63).claim? = none :=
  ⟨fun u => ⟨rfl, use_holding _ _⟩, by decide, by decide, by rw [entry_running]; rfl⟩

/-- An ACTIVITY lease at 0 with activity seen and without, and a FIXED one; the lapse grace 30 and 0; a grace at 0. -/
theorem test_meets_LeaseRunOutAndGraceExpiry :
    (leased.Lawful ∧ leased.state = .live ∧ leased.leaseRemaining = some 0 ∧
      ((holding (.unicast leased) running).entry 63).use = .unicast leased ∧
      (holding (.unicast leased) running).resetting = none) ∧
    ({ leased with activitySeen := some true }.activitySeen = some true ∧ leased.mode = .activity) ∧
    (¬ (leased.mode = .activity ∧ (leased.activitySeen = some true ∨ (running.host leased.owner).reach = .asleep ∨
      (running.host leased.owner).reach = .waking ∨ (running.host leased.owner).reach = .wakeRest))) ∧
    (running.accord.config.lapseGrace ≠ 0 ∧
      (running.setAccord { running.accord with config := { running.accord.config with lapseGrace := 0 } }).accord.config.lapseGrace
        = 0) ∧
    lapsing.Lawful ∧ lapsing.state = .lapsing ∧ lapsing.graceRemaining = some 0 :=
  ⟨⟨lawful_leased, rfl, rfl, use_holding _ _, rfl⟩, by decide, by decide, by decide, lawful_lapsing, rfl, rfl⟩

theorem test_meets_TickLowersEveryTimer : running.resetting = none := rfl

/-! The Frame Pool and the receive side. -/

theorem test_meets_ReferencesAreCountedAndTheLastFrees :
    (stored (record 1) running).record 127 = some (record 1) ∧ (stored (record 2) running).record 127 = some (record 2) ∧
      (record 1).refs = 1 ∧ 2 ≤ (record 2).refs :=
  ⟨by simp [stored], by simp [stored], rfl, by decide⟩

theorem test_meets_StoredFrameReadsBack :
    storeWf [] ∧ [(0 : CellId), 383].Nodup ∧ (List.replicate 256 (7 : Byte)).length ≤ 128 * [(0 : CellId), 383].length ∧
      (1 : CellId) ∉ [(0 : CellId), 383] ∧ 127 < 128 :=
  ⟨storeWf_nil, by decide, by rw [List.length_replicate]; decide, by decide, by decide⟩

theorem test_meets_StatusReadsOfAnAwakeHost : running.Ready .h0 := ready_running

/-- H0 with positions in its lists. -/
def queued (rx : List RxPosition) (hold : List HoldPosition) : State :=
  stored (record 1) (running.setHost .h0 { running.host .h0 with rxQueue := rx, holdList := hold })

theorem ready_queued (rx : List RxPosition) (hold : List HoldPosition) : (queued rx hold).Ready .h0 :=
  ⟨⟨rfl, rfl, rfl, rfl⟩, .inl rfl⟩

/-- Handles 127 and 128; an empty queue, a head that is the handle, and one that is not; a head with a length and a class. -/
theorem test_meets_ReadAndAcknowledgeTheHead :
    (running.Ready .h0 ∧ (running.host .h0).rxQueue = [] ∧ 127 < (128 : Word16).toNat ∧ (127 : Word16).toNat ≤ 127) ∧
    ((queued [⟨127, 0, false⟩] [⟨0, 0⟩]).Ready .h0 ∧
      ((queued [⟨127, 0, false⟩] [⟨0, 0⟩]).host .h0).rxQueue = [⟨127, 0, false⟩] ∧
      (queued [⟨127, 0, false⟩] [⟨0, 0⟩]).record 127 = some (record 1)) ∧
    (let s := stored { record 1 with cls := some .unicastMatch, matched := some ⟨63, 5⟩ } (queued [⟨127, 0, false⟩] [])
     s.Ready .h0 ∧ (s.host .h0).rxQueue = [⟨127, 0, false⟩] ∧
      s.record 127 = some { record 1 with cls := some .unicastMatch, matched := some ⟨63, 5⟩ }) ∧
    (127 : Word16).toNat = (127 : Handle).val ∧ (126 : Word16).toNat ≠ (127 : Handle).val :=
  ⟨⟨ready_running, rfl, by decide, by decide⟩, ⟨ready_queued _ _, rfl, by simp [queued, stored]⟩,
    ⟨⟨⟨rfl, rfl, rfl, rfl⟩, .inl rfl⟩, rfl, by simp [stored]⟩, by decide, by decide⟩

/-- H0 in a state with lists of given lengths. -/
def loaded (r : Reach) (rx hold charge : Nat) : State :=
  reaching r (running.setHost .h0
    { running.host .h0 with
      rxQueue := List.replicate rx ⟨0, 0, false⟩
      holdList := List.replicate hold ⟨0, 0⟩
      charge := charge })

/-- Whether a record of no cell fits the quota 96 of H0. -/
def fits (s : State) : Bool := (s.host .h0).charge + s.cellCount 127 ≤ s.accord.config.cellQuota.get .h0

/-- The bounds of the lists and of the quota, in each reachability state, and each governing action. -/
theorem test_meets_DeliveryByReachabilityState :
    ((loaded .awake 31 0 96).Awake .h0 ∧ ((loaded .awake 31 0 96).host .h0).rxQueue.length < 32 ∧
      fits (loaded .awake 31 0 96) = true ∧ fits (loaded .dozing 31 0 97) = false ∧
      32 ≤ ((loaded .dozing 32 0 96).host .h0).rxQueue.length) ∧
    ((loaded .awake 32 15 96).Awake .h0 ∧ ((loaded .awake 32 15 96).host .h0).holdList ≠ [] ∧
      ((loaded .awake 32 15 96).host .h0).holdList.length < 16 ∧ fits (loaded .awake 32 15 96) = true ∧
      fits (loaded .awake 32 15 97) = false ∧ 16 ≤ ((loaded .awake 32 16 96).host .h0).holdList.length) ∧
    (∀ r ∈ [Reach.asleep, .waking, .wakeRest, .stranded],
      ((loaded r 0 16 0).host .h0).reach = r ∧ ((loaded r 0 15 0).host .h0).holdList.length < 16 ∧
        16 ≤ ((loaded r 0 16 0).host .h0).holdList.length ∧ fits (loaded r 0 15 96) = true ∧
        fits (loaded r 0 15 97) = false) ∧
    (governingAction .unicastMatch .drop .initial = .drop ∧ governingAction .localSwitch .wake .initial = .wake ∧
      governingAction .default .drop .initial = .hold ∧ governingAction .broadcast .wake .initial = .hold ∧
      governingAction .groupMatch .wake { HostParams.initial with groupAsleep := .drop } = .drop) := by
  exact ⟨⟨.inl rfl, by decide +kernel⟩, ⟨.inl rfl, by decide +kernel⟩, by decide +kernel, by decide⟩

theorem test_meets_DozeSleepAndParameters :
    running.Ready .h0 ∧ 1 < (2 : Byte).toNat ∧ (1 : Byte).toNat ≤ 1 ∧ 32 < (33 : Byte).toNat ∧ 4 < (5 : Byte).toNat ∧
      ¬ ((32 : Byte) = 0 ∨ 32 < (32 : Byte).toNat ∨ (255 : Byte) = 0 ∨ (4 : Byte) = 0 ∨ 4 < (4 : Byte).toNat ∨
        1 < (1 : Byte).toNat) :=
  ⟨ready_running, by decide⟩

/-- AWAKE, DOZING, and asleep with held frames and room for fewer, for all, and for none. -/
theorem test_meets_ResumeMakesTheHostAwake :
    (running.Heard .h0 ∧ (running.host .h0).reach = .awake ∧ ((reaching .dozing running).host .h0).reach = .dozing ∧
      (reaching .dozing running).Heard .h0) ∧
    (∀ r ∈ [Reach.asleep, .waking, .wakeRest, .stranded],
      (loaded r 20 16 0).asleep .h0 = true ∧ ((loaded r 20 16 0).host .h0).wake ≠ none ∧
        (loaded r 0 16 0).asleep .h0 = true ∧ (loaded r 32 16 0).asleep .h0 = true) ∧
    ∀ r ∈ [Reach.asleep, .waking, .wakeRest, .stranded], (loaded r 20 16 0).Heard .h0 := by
  have key (r : Reach) (hr : r ∈ [Reach.asleep, .waking, .wakeRest, .stranded]) : r.isAsleep = true ∧ r ≠ .detached := by
    simp only [List.mem_cons, List.not_mem_nil, or_false] at hr
    rcases hr with rfl | rfl | rfl | rfl <;> decide
  exact ⟨⟨ready_running.heard, rfl, rfl, ⟨⟨rfl, rfl, rfl, rfl⟩, Reach.noConfusion⟩⟩,
    fun r hr => ⟨(key r hr).1, Option.some_ne_none _, (key r hr).1, (key r hr).1⟩,
    fun r hr => ⟨⟨rfl, rfl, rfl, rfl⟩, (key r hr).2⟩⟩

/-- H0 with timers. -/
def timed (r : Reach) (t : Nat) (k : Nat) : State :=
  running.setHost .h0
    { running.host .h0 with
      reach := r
      dozeTimer := some t
      alarm := some t
      attempt := some k
      attemptTimer := some t
      restTimer := some t }

/-- Timers at 0 and at 1; the third attempt, which is the last, and the second. -/
theorem test_meets_HostTimerExpiries :
    (∀ r ∈ [Reach.asleep, .waking, .wakeRest],
      (timed r 0 3).resetting = none ∧ ((timed r 0 3).host .h0).reach = r ∧ ((timed r 0 3).host .h0).dozeTimer = some 0 ∧
        ((timed r 0 3).host .h0).alarm = some 0 ∧ ((timed r 0 3).host .h0).attemptTimer = some 0 ∧
        ((timed r 0 3).host .h0).restTimer = some 0 ∧ ((timed r 0 3).host .h0).attempt = some 3 ∧
        ((timed r 1 3).host .h0).dozeTimer ≠ some 0) ∧
    ((timed .waking 0 2).host .h0).attempt = some 2 ∧ 2 < ((timed .waking 0 2).host .h0).params.wakeAttempts ∧
      ((timed .waking 0 3).host .h0).params.wakeAttempts ≤ 3 :=
  ⟨fun _ _ => ⟨rfl, rfl, rfl, rfl, rfl, rfl, rfl, Nat.one_ne_zero ∘ Option.some.inj⟩, rfl, Nat.lt_succ_self 2, Nat.le_refl 3⟩

/-! Line receive and classification. -/

/-- A line UP with a reception into record 127. -/
def receivingLine (rec : FrameRecord) (x : Reception) : State := stored rec (lineUp (running.setReception (some x)))

theorem test_meets_LineEvents :
    (running.resetting = none ∧ running.line.up = false) ∧ (lineUp running).line.up = true ∧
    ((receivingLine (receiving true []) (reception 64 [] false)).line.up = true ∧
      (receivingLine (receiving true []) (reception 64 [] false)).record 127 = some (receiving true []) ∧
      (receivingLine (receiving false [0]) (reception 64 [] false)).record 127 = some (receiving false [0])) :=
  ⟨⟨rfl, rfl⟩, rfl, rfl, by simp [receivingLine, stored], by simp [receivingLine, stored]⟩

/-- The line DOWN, disabled, without and with a free record; receptions of fewer than four bytes and of four; stored bytes
in a cell of the chain, in a new cell with a cell free and without, and past the twelfth cell. -/
theorem test_meets_FrameStartAndReceivedBytes :
    ((lineUp running).line.up = true ∧ (lineUp running).line.reception = none ∧ (lineUp running).resetting = none ∧
      (lineUp running).accord.config.lineEnable = true ∧ (lineUp running).pool.freeRecords ≠ [] ∧
      (disabled (lineUp running)).accord.config.lineEnable = false ∧
      ({ lineUp running with pool := { (lineUp running).pool with freeRecords := [] } } : State).pool.freeRecords = []) ∧
    ((reception 3 [1, 2, 3] false).recent.length < 4 ∧ (reception 4 [1, 2, 3, 4] false).recent = 1 :: [2, 3, 4]) ∧
    ((receivingLine (receiving false [0]) (reception 131 [1, 2, 3, 4] false)).record 127 = some (receiving false [0]) ∧
      (131 - 4) / 128 < (receiving false [0]).chain.length ∧ (receiving false [0]).chain.length ≤ (132 - 4) / 128 ∧
      1536 ≤ 1540 - 4 ∧ 1539 - 4 < 1536 ∧ (receiving true []).exhausted ≠ some false) ∧
    (running.pool.freeCells ≠ [] ∧
      ({ running with pool := { running.pool with freeCells := [] } } : State).pool.freeCells = []) := by
  exact ⟨⟨rfl, rfl, rfl, rfl, by decide +kernel, rfl, rfl⟩, by decide,
    ⟨by simp [receivingLine, stored], by decide⟩, by decide +kernel, rfl⟩

/-- Four check bytes; frames of 4, 60 and 1,514 bytes, and the frame check of one. -/
theorem test_meets_ReceptionJudgesTheFrameCheck :
    (frameCheck [0x31, 0x32, 0x33, 0x34]).length = 4 ∧ 4 ≤ [(0x31 : Byte), 0x32, 0x33, 0x34].length ∧
      ∀ n ∈ [60, 1514], 60 ≤ (List.replicate n (0 : Byte)).length ∧ (List.replicate n (0 : Byte)).length ≤ 1514 :=
  ⟨rfl, Nat.le_refl 4, by simp⟩

/-- The shortest and the longest frame, from the free lists after reset. -/
theorem test_meets_ReceivedFrameIsStoredWhole :
    (lineUp running).resetting = none ∧ (lineUp running).line.up = true ∧ (lineUp running).line.reception = none ∧
    (lineUp running).accord.config.lineEnable = true ∧
    (lineUp running).pool.freeRecords = 0 :: (List.finRange 127).map Fin.succ ∧
    (lineUp running).pool.freeCells.Nodup ∧ storeWf (lineUp running).pool.store ∧
    (∀ n ∈ [60, 1514], 60 ≤ (List.replicate n (0 : Byte)).length ∧ (List.replicate n (0 : Byte)).length ≤ 1514 ∧
      ((List.replicate n (0 : Byte)).length + 127) / 128 ≤ (lineUp running).pool.freeCells.length) := by
  rw [show (lineUp running).pool = Pool.reset from rfl]
  simp only [Pool.reset]
  refine ⟨rfl, rfl, rfl, rfl, List.finRange_succ, List.nodup_finRange _, storeWf_nil, ?_⟩
  have h : (List.finRange Config.cellCount).length = Config.cellCount := List.length_finRange
  intro n hn
  simp only [List.length_replicate, h]
  simp only [List.mem_cons, List.not_mem_nil, or_false] at hn
  rcases hn with rfl | rfl <;> decide

/-- Lengths 63, 64, 1,518 and 1,519; an error seen; a check that agrees and one that does not; an exhausted record. -/
theorem test_meets_WireFrameEndSettlesTheFrame :
    (running.line.reception = none ∧ running.resetting = none) ∧
    ((receivingLine (receiving false [0]) (reception 63 [0, 0, 0, 0] false)).line.reception =
        some (reception 63 [0, 0, 0, 0] false) ∧
      (receivingLine (receiving false [0]) (reception 63 [0, 0, 0, 0] false)).record 127 = some (receiving false [0]) ∧
      (receiving false [0]).exhausted ≠ some true ∧ (receiving true []).exhausted = some true) ∧
    ((reception 63 [] false).received < 64 ∧ 64 ≤ (reception 64 [] false).received ∧
      (reception 1518 [] false).received ≤ 1518 ∧ 1518 < (reception 1519 [] false).received ∧
      (reception 64 [] true).errorSeen = true ∧
      crcBytes (reception 64 [0, 0, 0, 0] false).check = (reception 64 [0, 0, 0, 0] false).recent ∧
      crcBytes (reception 64 [1, 0, 0, 0] false).check ≠ (reception 64 [1, 0, 0, 0] false).recent) :=
  ⟨⟨rfl, rfl⟩, ⟨rfl, by simp [receivingLine, stored], by decide, by decide⟩, by decide +kernel⟩

theorem test_meets_SourceObservation :
    (∀ c : Claim, c.Lawful → (holding (.unicast c) running).TableLaw ∧
      ((holding (.unicast c) running).entry 63).use = .unicast c) ∧
    ((staged .probing 0).Lawful ∧ (staged .probed 255).Lawful ∧ (staged .conflicted 255).Lawful ∧ live.Lawful ∧
      lapsing.Lawful ∧ live.collisions = some 0) ∧
    running.TableLaw ∧ ∀ (i : Index) (c : Claim), (running.entry i).use = .unicast c → c.address ≠ 0x024A11000001 := by
  refine ⟨fun c hc => ⟨tableLaw_holding _ hc, use_holding _ _⟩,
    ⟨lawful_probing 0 (by decide), lawful_staged 255 (by decide), lawful_conflicted 255 (by decide), lawful_live,
      lawful_lapsing, rfl⟩, tableLaw_running, fun i c h => ?_⟩
  rw [entry_running] at h
  exact absurd h (by simp [Entry.reset])

/-- A table whose one claim is not the source's, and each destination: the broadcast address, a group that the table holds
and one it does not, a LIVE claim, a staged one, with each policy. -/
theorem test_meets_ClassificationOfALineFrame :
    (∀ u : EntryUse, u.Lawful → (∀ c, u = .unicast c → c.address ≠ 0x02FFFFFFFFFF) →
      (holding u running).observeSource 0x02FFFFFFFFFF = holding u running ∧ (holding u running).TableLaw ∧
        ((holding u running).entry 63).use = u) ∧
    (live.Lawful ∧ live.state.staged = false ∧ (staged .probed 0).Lawful ∧ (staged .probed 0).state.staged = true ∧
      (group .h0).Lawful) ∧
    (isGroupAddress live.address = false ∧ isGroupAddress (group .h0).address = true ∧
      (group .h0).address ≠ 0xFFFFFFFFFFFF) ∧
    (running.accord.config.unknown = .discard ∧ (running.host .h1).reach ≠ .detached ∧
      (running.host .h2).reach = .detached) := by
  refine ⟨fun u hu hc => ⟨?_, tableLaw_holding u hu, use_holding _ _⟩,
    ⟨lawful_live, rfl, lawful_staged 0 (by decide), rfl, lawful_group _⟩, by decide, by decide⟩
  have h : (holding u running).claimAt 0x02FFFFFFFFFF = none := by
    rw [State.claimAt_none (tableLaw_holding u hu)]
    intro i c hi
    rw [entry_holding] at hi
    split at hi
    · exact hc c hi
    · simp [Entry.reset] at hi
  unfold State.observeSource
  rw [h]

/-! Transmit. -/

/-- A frame of `n` bytes with destination octets `d` and the source address of `live`. -/
def frame (d : Byte) (n : Nat) : List Byte :=
  [d, 0x4A, 0x11, 0, 0, 1] ++ addressBytes live.address ++ List.replicate (n - 12) 0

theorem length_frame (d : Byte) {n : Nat} (h : 12 ≤ n) : (frame d n).length = n := by
  simp only [frame, List.length_append, List.length_cons, List.length_nil, List.length_replicate, length_addressBytes]
  omega

/-- H0 with a claim and a transmit queue of `n` positions, and pools of given sizes. -/
def sending (n records cells : Nat) : State :=
  let s := (holding (.unicast live) running).setTx .h0
    { (running.tx .h0) with queue := List.replicate n ⟨0, 0⟩, nextSequence := some 65535 }
  { s with pool := { s.pool with freeRecords := s.pool.freeRecords.take records, freeCells := s.pool.freeCells.take cells } }

theorem tableLaw_sending (n records cells : Nat) : (sending n records cells).TableLaw := by
  have h := tableLaw_holding (.unicast live) lawful_live
  exact ⟨h.1, h.2⟩

theorem use_sending (n records cells : Nat) : ((sending n records cells).entry 63).use = .unicast live :=
  use_holding (.unicast live) running

/-- Lengths 59, 60, 1,514 and 1,515; a source H0 holds, a destination it holds and one it does not; queues of 7 and 8;
8 and 9 free records; 48 and 49 free cells for a frame of one cell. -/
theorem test_meets_SubmitChecksAndStores :
    ((sending 7 9 49).Ready .h0 ∧ (sending 7 9 49).TableLaw ∧ ((sending 7 9 49).entry 63).use = .unicast live ∧
      live.owner = .h0 ∧ live.state.staged = false) ∧
    (59 < 60 ∧ 1514 < 1515 ∧ (frame 6 60).length = 60 ∧ (frame 6 1514).length = 1514) ∧
    (addressAt (frame 6 60) 6 = live.address ∧ addressAt (frame 2 60) 0 = live.address ∧
      addressAt (frame 6 60) 0 ≠ live.address) ∧
    (¬ ∃ i c, (running.entry i).use = .unicast c ∧ c.address = addressAt (frame 6 60) 6 ∧ c.owner = .h0 ∧
      c.state.staged = false) ∧
    (((sending 7 9 49).tx .h0).queue.length < 8 ∧ 8 ≤ ((sending 8 9 49).tx .h0).queue.length ∧
      (sending 7 8 49).pool.freeRecords.length ≤ 8 ∧ 8 < (sending 7 9 49).pool.freeRecords.length ∧
      (sending 7 9 48).pool.freeCells.length < 1 + 48 ∧ 1 + 48 ≤ (sending 7 9 49).pool.freeCells.length ∧
      ((sending 7 9 49).tx .h0).nextSequence = some 65535) := by
  refine ⟨⟨⟨⟨rfl, rfl, rfl, rfl⟩, .inl rfl⟩, tableLaw_sending _ _ _, use_sending _ _ _, rfl, rfl⟩, ?_,
    by decide +kernel, ?_, by decide +kernel⟩
  · exact ⟨by decide, by decide, length_frame _ (by decide), length_frame _ (by decide)⟩
  · rintro ⟨i, c, h, -⟩
    rw [entry_running] at h
    exact absurd h (by simp [Entry.reset])

/-- H0 with a frame at the head of its transmit queue, last granted H3. -/
def granting (u : EntryUse) (ring : Nat) : State :=
  let s := stored { record 1 with origin := .host .h0 } (holding u running)
  s.setTx .h0 { queue := [⟨127, 9⟩], ring := List.replicate ring ⟨0, .sent, 0⟩, nextSequence := some 10 }

/-- The same with the line UP and enabled, and the frame's stored bytes in the store. -/
def grantingOf (store : List Host.Cell) (u : EntryUse) : State :=
  let s := lineUp (granting u 7)
  { s with pool := { s.pool with store := store } }

theorem tableLaw_granting (u : EntryUse) (hu : u.Lawful) (n : Nat) : (granting u n).TableLaw := by
  have h := tableLaw_holding u hu
  exact ⟨h.1, h.2⟩

theorem entry_grantingOf (store : List Host.Cell) (u : EntryUse) (i : Index) :
    (grantingOf store u).entry i = (granting u 7).entry i := rfl

/-- A ring of 7 and one of 8; the path IDLE; a table with a claim of H0, of H1, a staged one, and a group; the line DOWN, UP
and disabled. The destination is 0 in a store of zeros, the broadcast address, a group's, one that is no group's, and a
claim's. -/
theorem test_meets_GrantSwitchesTheHeadFrame :
    (running.resetting = none ∧ ∀ k, ¬ ((running.tx k).queue ≠ [] ∧ (running.tx k).ring.length < 8)) ∧
    (((granting .free 7).tx .h0).queue = [⟨127, 9⟩] ∧ ((granting .free 7).tx .h0).ring.length < 8 ∧
      ¬ ((granting .free 8).tx .h0).ring.length < 8 ∧ (granting .free 7).arbiter.path = none ∧
      (granting .free 7).resetting = none) ∧
    ([HostId.h3.succ, HostId.h3.succ.succ, HostId.h3.succ.succ.succ, .h3] = [] ++ HostId.h0 :: [.h1, .h2, .h3] ∧
      (granting .free 7).arbiter.lastGranted = .h3) ∧
    ((granting .free 7).record 127 = some { record 1 with origin := .host .h0 } ∧ (granting .free 7).TableLaw) ∧
    (isGroupAddress (addressAt (chainBytes (granting .free 7).pool.store [0] 60) 0) = false) ∧
    (∀ u : EntryUse, u.Lawful → (granting u 7).TableLaw ∧ ((granting u 7).entry 63).use = u) ∧
    (∀ (u : EntryUse) (store : List Host.Cell), u.Lawful →
      let s := grantingOf store u
      s.TableLaw ∧ (s.entry 63).use = u ∧ s.resetting = none ∧ s.arbiter.path = none ∧ s.arbiter.lastGranted = .h3 ∧
        (s.tx .h0).queue = [⟨127, 9⟩] ∧ (s.tx .h0).ring.length < 8 ∧ s.line.up = true ∧
        s.accord.config.lineEnable = true ∧ (disabled s).accord.config.lineEnable = false ∧
        s.record 127 = some { record 1 with origin := .host .h0 }) ∧
    (∀ x ∈ [([(0, 0xFF), (1, 0xFF), (2, 0xFF), (3, 0xFF), (4, 0xFF), (5, 0xFF)], broadcastAddress),
        ([(0, 0x01), (2, 0x5E), (5, 0x01)], (group .h1).address), ([(0, 0x01), (2, 0x5E), (5, 0x02)], 0x01005E000002),
        ([(0, 0x02), (1, 0x4A), (2, 0x11), (5, 0x01)], live.address)],
      addressAt (chainBytes (grantingOf x.1 .free).pool.store [0] 60) 0 = x.2) ∧
    (isGroupAddress (group .h1).address = true ∧ (group .h1).address ≠ 0xFFFFFFFFFFFF ∧
      isGroupAddress live.address = false) ∧
    (∀ j, ((grantingOf [] .free).entry j).address? ≠ some 0x01005E000002) ∧
    (live.Lawful ∧ (theirs live).owner ≠ .h0 ∧ (staged .probed 0).Lawful ∧ (group .h1).Lawful) := by
  refine ⟨⟨rfl, by intro k; cases k <;> decide⟩, by decide, by decide,
    ⟨by simp [granting, stored], tableLaw_granting .free trivial 7⟩,
    by decide +kernel, fun u hu => ⟨tableLaw_granting u hu _, by simp [granting, stored, holding]⟩,
    fun u store hu => ⟨⟨(tableLaw_granting u hu 7).1, (tableLaw_granting u hu 7).2⟩, use_holding u running, rfl, rfl,
      rfl, rfl, Nat.lt_succ_self 7, rfl, rfl, rfl,
      by simp [grantingOf, lineUp, granting, stored, State.record, State.setRecord, State.setTx]⟩,
    by decide +kernel, by decide, no_holder .free _ (by decide), lawful_live, by decide, lawful_staged 0 (by decide),
    lawful_group _⟩

/-- A frame on the path, marked for discard and not. -/
def onPath (discard : Bool) : State := (stored (record 1) running).setPath (some ⟨127, .h0, 9, 1, discard⟩)

theorem test_meets_SendCompletionAndReadCompletions :
    (running.resetting = none ∧ running.arbiter.path = none) ∧
    ((onPath false).arbiter.path = some ⟨127, .h0, 9, 1, false⟩ ∧ (onPath true).arbiter.path = some ⟨127, .h0, 9, 1, true⟩ ∧
      (onPath false).record 127 = some (record 1) ∧ (onPath false).resetting = none) ∧
    (onPath false).Ready .h0 ∧ ((onPath false).tx .h0).nextSequence = some 0 :=
  ⟨⟨rfl, rfl⟩, ⟨rfl, rfl, by simp [onPath, stored], rfl⟩, ⟨⟨rfl, rfl, rfl, rfl⟩, .inl rfl⟩, rfl⟩

/-! The configuration accord. -/

/-- A proposal pending and not; the generation in force and another; each bound of a record; another host attached and
none. -/
theorem test_meets_ProposeFormsOrAppliesAProposal :
    (running.Ready .h0 ∧ running.accord.proposal = none ∧ running.accord.generation = 0 ∧ (1 : Word16) ≠ 0) ∧
    (proposing (proposal .outstanding 9) running).accord.proposal ≠ none ∧
    ((configRecordBytes .initial).length = 20 ∧ ConfigRecord.initial.Lawful) ∧
    ([HostId.h0, .h1, .h2, .h3].filter (fun k => k ≠ .h0 && running.attached k) = [.h1] ∧
      [HostId.h0, .h1, .h2, .h3].filter (fun k => k ≠ .h0 && (select .h0 (attach .h0 .reset)).attached k) = []) ∧
    (3 < (4 : Byte).toNat ∧ 64 < (65 : Byte).toNat ∧ (word16At [0, 11] 0).toNat < 12 ∧ 384 < (word16At [1, 0x81] 0).toNat) := by
  refine ⟨⟨ready_running, rfl, rfl, by decide⟩, by decide, ⟨by decide, ?_⟩, by decide, by decide⟩
  constructor
  all_goals first | decide | (intro h; cases h <;> decide)

/-- H0 with a vote on a proposal of H1. -/
def voting (v : Vote) (more : Option Vote) (window : Nat) : State :=
  proposing { proposal v window with proposer := .h1, votes := ⟨some v, none, more, none⟩ } running

theorem test_meets_VotesAndEndsOfAProposal :
    (∀ (v : Vote) (more : Option Vote) (n : Nat), (voting v more n).Ready .h0) ∧
    ((proposing (proposal .outstanding 9) running).Ready .h0 ∧ (proposal .outstanding 9).proposer = .h0 ∧
      (proposal .outstanding 9).votes.get .h0 = none ∧ (proposal .outstanding 9).serial = 1) ∧
    ((voting .outstanding none 0).accord.proposal.map (fun q => (q.votes.get .h0, q.serial, q.window)) =
        some (some .outstanding, 1, 0) ∧
      (voting .endorsed none 1).accord.proposal.map (fun q => (q.votes.get .h0, q.window)) = some (some .endorsed, 1) ∧
      (voting .outstanding (some .outstanding) 1).accord.proposal.map (fun q => q.votes.get .h2) =
        some (some .outstanding)) ∧
    (voting .outstanding none 0).resetting = none :=
  ⟨fun _ _ _ => ⟨⟨rfl, rfl, rfl, rfl⟩, .inl rfl⟩, ⟨⟨⟨rfl, rfl, rfl, rfl⟩, .inl rfl⟩, rfl, rfl, rfl⟩, by decide, rfl⟩

theorem test_meets_ApplicationOfAProposal :
    (running.accord.config.lineEnable = true ∧ { ConfigRecord.initial with lineEnable := false }.lineEnable = false ∧
      running.line.reception = none) ∧
    (receivingLine (receiving false [0]) (reception 9 [] false)).line.reception = some (reception 9 [] false) ∧
    (receivingLine (receiving false [0]) (reception 9 [] false)).record 127 = some (receiving false [0]) ∧
    (receivingLine (receiving true []) (reception 9 [] false)).record 127 = some (receiving true []) :=
  ⟨by decide, rfl, by simp [receivingLine, stored], by simp [receivingLine, stored]⟩

/-! The laws that every step keeps. -/

theorem record_running (r : Handle) : running.record r = none := by
  simp [running, select, attach, State.reset, State.record, Pool.reset]

theorem attached_running (h : HostId) (ha : running.attached h = false) : h = .h2 ∨ h = .h3 := by
  cases h
  · exact absurd ha (by decide)
  · exact absurd ha (by decide)
  · exact .inl rfl
  · exact .inr rfl

/-- With an empty queue the state `running` steps to itself, and it has each law. -/
theorem test_meets_the_laws_that_every_step_keeps :
    step running = .next running ∧ running.AccordLaw ∧ running.TableLaw ∧ running.PoolLaw ∧ storeWf running.pool.store ∧
      running.ReferenceLaw ∧ running.ChargeLaw ∧ running.CapacityLaw ∧ running.AttachmentLaw ∧ running.HeldLaw ∧
      running.ReachLaw ∧ running.PortLaw := by
  have named (r : Handle) : running.named r = 0 := rfl
  refine ⟨rfl, ⟨test_meets_ProposeFormsOrAppliesAProposal.2.2.1.2, ?_, ?_, ?_, ?_, ?_, ?_⟩, tableLaw_running,
    ⟨fun c => ?_, fun r => ?_⟩, storeWf_nil, fun r => ?_, ⟨fun h => ?_, fun r h hr => ?_⟩, ?_, ?_, fun h _ hh => ?_, ?_, ?_⟩
  · rintro q ⟨⟩
  · rintro q ⟨⟩
  · rintro q ⟨⟩
  · rintro q ⟨⟩
  · rintro q ⟨⟩
  · rintro q ⟨⟩
  · have h : (List.finRange Config.cellCount).count c = 1 :=
      List.count_eq_one_of_mem (List.nodup_finRange _) (List.mem_finRange c)
    rw [show running.pool = Pool.reset from rfl]
    simp only [Pool.reset, h]
    simp [record_running, chainOf]
  · rw [if_pos (record_running r)]
    rw [show running.pool = Pool.reset from rfl, Pool.reset]
    exact List.count_eq_one_of_mem (List.nodup_finRange Config.recordCount) (List.mem_finRange r)
  · simp [record_running, named]
  · cases h <;> rfl
  · exact absurd hr (by simp [State.receivesInto, running, select, attach, State.reset, Line.reset])
  · constructor
    case place => rintro f ⟨⟩
    all_goals (intro h; cases h <;> exact Nat.zero_le _)
  · constructor
    case owner => intro h _ i; simp [State.ownedBy, entry_running, Entry.reset]
    case member => intro h _ i g hg; simp [entry_running, Entry.reset, Entry.group?] at hg
    case target => intro h _ i c hc; simp [entry_running, Entry.reset, Entry.claim?] at hc
    case proposal => rintro h _ q ⟨⟩
    case path => rintro f ⟨⟩
    case lists => intro h ha; rcases attached_running h ha with rfl | rfl <;> exact ⟨rfl, rfl, rfl, rfl⟩
    case transmit => intro h ha; rcases attached_running h ha with rfl | rfl <;> exact ⟨rfl, rfl⟩
  · exact absurd (by cases h <;> rfl) hh
  · constructor <;> intro h <;> cases h <;> first | rfl | (intro hx; exact absurd hx (by decide))
  · constructor
    case resetting => intro h; exact absurd rfl h
    all_goals intro h; cases h <;> first | (intro _; exact ⟨rfl, rfl⟩) | (intro hx; exact absurd hx (by decide))

/-- The record of a frame of one cell delivered to H0. -/
def delivered : FrameRecord :=
  { origin := .line, stamp := 0, chain := [383], exhausted := none, length := some 60, cls := some .unicastMatch,
    matched := some ⟨63, 5⟩, refs := 1 }

/-- H0 with a claim, a pending proposal on which H1 has to vote, and a frame in its receive queue; an ACK_FRAME of that
frame and a tick wait. -/
def busy : State :=
  let s := proposing (proposal .outstanding 100) (holding (.unicast live) running)
  let s := s.setHost .h0 { s.host .h0 with rxQueue := [⟨127, 0, false⟩], charge := 1 }
  { s with
    pool := { store := [(49151, 1)]
              records := s.pool.records.set 127 (some delivered)
              freeCells := (List.finRange 384).take 383
              freeRecords := (List.finRange 128).take 127 }
    pending := [.ackFrame .h0 (requestBytes 0x31 7 [0, 127]), .tick] }

/-- The front command of `busy` acknowledges the frame: H0's receive queue is empty after the step. -/
theorem steps_busy : ∃ t, step busy = .next t ∧ (t.host .h0).rxQueue = [] ∧ t.pending = [.tick] :=
  ⟨_, rfl, by decide +kernel, by decide +kernel⟩

theorem entry_busy (i : Index) : busy.entry i = (holding (.unicast live) running).entry i := rfl

theorem record_busy (r : Handle) : busy.record r = if r = 127 then some delivered else none := by
  rw [show busy.record r = (running.setRecord 127 (some delivered)).record r from rfl, State.record_setRecord]
  simp [record_running]

theorem attached_busy (h : HostId) (ha : busy.attached h = false) : h = .h2 ∨ h = .h3 := by
  cases h <;> first | exact absurd ha (by decide) | exact .inl rfl | exact .inr rfl

theorem named_busy (r : Handle) : busy.named r = if r = 127 then 1 else 0 := by
  have h (k : HostId) : busy.positions r k = if k = .h0 ∧ r = 127 then 1 else 0 := by
    cases k
    · by_cases e : r = 127
      · subst e; rfl
      · have e' : ¬ (127 : Handle) = r := fun x => e x.symm
        have h1 : (busy.host .h0).rxQueue = [⟨127, 0, false⟩] := rfl
        have h2 : (busy.host .h0).holdList = [] := rfl
        have h3 : (busy.tx .h0).queue = [] := rfl
        simp [State.positions, h1, h2, h3, e, e']
    all_goals simp; rfl
  by_cases e : r = 127
  · subst e; rfl
  · simp [State.named, h, e, HostId.all, State.receivesInto, State.onPath]
    exact ⟨rfl, rfl⟩

/-- A pending proposal with the serial last given and the generation in force, and a table with one claim. -/
theorem test_meets_StepKeepsTheTableAndAccordLaws :
    busy.AccordLaw ∧ busy.TableLaw ∧ ∃ t, step busy = .next t := by
  have h := tableLaw_holding (.unicast live) lawful_live
  refine ⟨⟨test_meets_ProposeFormsOrAppliesAProposal.2.2.1.2, ?_, ?_, ?_, ?_, ?_, ?_⟩, ⟨h.1, h.2⟩, steps_busy.imp fun _ h => h.1⟩
  · rintro q ⟨⟩; exact test_meets_ProposeFormsOrAppliesAProposal.2.2.1.2
  · rintro q ⟨⟩; decide
  · rintro q ⟨⟩; rfl
  · rintro q ⟨⟩; rfl
  · rintro q ⟨⟩; rfl
  · rintro q ⟨⟩; exact ⟨.h1, rfl⟩

/-- A cell in the chain of a record and the others free, a record allocated and the others free, and a byte stored. -/
theorem test_meets_StepKeepsThePoolLawAndTheStoreForm :
    busy.PoolLaw ∧ storeWf busy.pool.store ∧ ∃ t, step busy = .next t := by
  refine ⟨⟨fun c => ?_, fun r => ?_⟩, ⟨List.pairwise_singleton _ _, by simp [busy]; decide⟩, steps_busy.imp fun _ h => h.1⟩
  · have h : ((List.finRange 384).take 383 ++ [383]).count c = 1 := by
      rw [show (List.finRange 384).take 383 ++ [383] = List.finRange 384 by decide +kernel]
      exact List.count_eq_one_of_mem (List.nodup_finRange _) (List.mem_finRange c)
    rw [List.count_append] at h
    rw [List.sum_map_eq_nsmul_single (127 : Handle) _ (fun r hr _ => by simp [record_busy, hr, chainOf]),
      List.count_eq_one_of_mem (List.nodup_finRange _) (List.mem_finRange _), one_nsmul, record_busy, if_pos rfl]
    exact h
  · have h : ((List.finRange 128).take 127 ++ [127]).count r = 1 := by
      rw [show (List.finRange 128).take 127 ++ [127] = List.finRange 128 by decide +kernel]
      exact List.count_eq_one_of_mem (List.nodup_finRange _) (List.mem_finRange r)
    rw [List.count_append] at h
    rw [record_busy]
    by_cases e : r = 127
    · subst e; decide +kernel
    · have e' : ¬ (127 : Handle) = r := fun x => e x.symm
      simp only [e, e', if_false, List.count_singleton, beq_iff_eq, if_true, Nat.add_zero] at h ⊢
      exact h

/-- A record that one position of a receive queue names. -/
theorem test_meets_StepKeepsTheReferenceLaw :
    busy.PoolLaw ∧ busy.ReferenceLaw ∧ ∃ t, step busy = .next t := by
  refine ⟨test_meets_StepKeepsThePoolLawAndTheStoreForm.1, fun r => ?_, steps_busy.imp fun _ h => h.1⟩
  rw [record_busy, named_busy]
  by_cases e : r = 127 <;> simp [e, delivered]

/-- A charge of one cell, for the frame in the receive queue. -/
theorem test_meets_StepKeepsTheChargeLaw :
    busy.PoolLaw ∧ busy.ReferenceLaw ∧ busy.ChargeLaw ∧ ∃ t, step busy = .next t := by
  refine ⟨test_meets_StepKeepsThePoolLawAndTheStoreForm.1, test_meets_StepKeepsTheReferenceLaw.2.1,
    ⟨fun h => ?_, fun r h hr => absurd hr Bool.false_ne_true⟩, steps_busy.imp fun _ h => h.1⟩
  cases h
  · exact (by simp [State.cellCount, record_busy, delivered] : 1 = busy.cellCount 127)
  all_goals rfl

/-- A receive queue of one position; H2 and H3 DETACHED. -/
theorem test_meets_StepKeepsTheListsOfEveryHost :
    busy.CapacityLaw ∧ busy.AttachmentLaw ∧ busy.HeldLaw ∧ ∃ t, step busy = .next t := by
  refine ⟨?_, ?_, fun h _ hh => absurd (by cases h <;> rfl) hh, steps_busy.imp fun _ h => h.1⟩
  · constructor
    case place => rintro f ⟨⟩
    all_goals (intro h; cases h <;> decide +kernel)
  · constructor
    case owner =>
      intro h ha i
      simp only [State.ownedBy, entry_busy, entry_holding]
      by_cases e : i = 63 <;> rcases attached_busy h ha with rfl | rfl <;> simp [e, live, Entry.reset]
    case member =>
      intro h _ i g hg
      rw [entry_busy, entry_holding] at hg
      by_cases e : i = 63 <;> simp [e, Entry.reset, Entry.group?] at hg
    case target =>
      intro h _ i c hc o ho
      rw [entry_busy, entry_holding] at hc
      split at hc
      · cases hc; cases ho
      · simp [Entry.reset, Entry.claim?] at hc
    case proposal => rintro h ha q ⟨⟩; rcases attached_busy h ha with rfl | rfl <;> decide
    case path => rintro f ⟨⟩
    case lists => intro h ha; rcases attached_busy h ha with rfl | rfl <;> exact ⟨rfl, rfl, rfl, rfl⟩
    case transmit => intro h ha; rcases attached_busy h ha with rfl | rfl <;> exact ⟨rfl, rfl⟩

/-- H0 and H1 AWAKE, and H0's port in REQUEST. -/
theorem test_meets_StepKeepsReachabilityAndPhase : busy.ReachLaw ∧ busy.PortLaw ∧ ∃ t, step busy = .next t := by
  refine ⟨?_, ?_, steps_busy.imp fun _ h => h.1⟩
  · constructor <;> intro h <;> cases h <;> first | rfl | (intro hx; exact absurd hx (by decide))
  · constructor
    case resetting => intro h; exact absurd rfl h
    all_goals intro h; cases h <;> first | (intro _; exact ⟨rfl, rfl⟩) | (intro hx; exact absurd hx (by decide))

theorem test_meets_RequestReadsBack : (List.replicate 1530 (0 : Byte)).length ≤ 1530 :=
  List.length_replicate.le

theorem test_meets_ConfigRecordReadsBack :
    ConfigRecord.initial.Lawful ∧ (configRecordBytes .initial).length = 20 ∧
      configRecordOf (configRecordBytes .initial) = some .initial :=
  ⟨test_meets_ProposeFormsOrAppliesAProposal.2.2.1.2, by decide, by decide⟩

end Sys2Proof.Tests
end

section
/-! SUPPORT. How an answered request shows at the port of an attached host, and the requests that every asleep host is
refused; shared by the statements about claims, groups and offers. -/

namespace Sys2Proof.Machine

/-! ### Requests of an attached host -/

/-- A request is answered with what `serve` replies, over the state that `serve` leaves. -/
theorem State.Heard.exec_reply {s : State} {h : HostId} (hh : s.Heard h) (c : Command) (tag : Word16) {p : List Byte}
    (hp : c.admitsLength p.length = true) (hc : c ≠ .attach) {t : State} {r : Reply} (hr : serve h c p s = (t, r)) :
    exec (Instr.ofRequest h c (requestBytes c.code tag p)) s =
      .next (t.responded h c.code tag p r.status.code r.payload) := by
  rw [State.exec_heard hh c tag p hp hc, hr]

theorem State.Heard.exec_refused {s : State} {h : HostId} (hh : s.Heard h) (c : Command) (tag : Word16) {p : List Byte}
    (hp : c.admitsLength p.length = true) (hc : c ≠ .attach) {st : Status} (hr : serve h c p s = refused s st) :
    exec (Instr.ofRequest h c (requestBytes c.code tag p)) s = .next (s.responded h c.code tag p st.code []) :=
  hh.exec_reply c tag hp hc hr

theorem State.Heard.exec_accepted {s : State} {h : HostId} (hh : s.Heard h) (c : Command) (tag : Word16) {p : List Byte}
    (hp : c.admitsLength p.length = true) (hc : c ≠ .attach) {t : State} {payload : List Byte}
    (hr : serve h c p s = accepted t payload) :
    exec (Instr.ofRequest h c (requestBytes c.code tag p)) s = .next (t.responded h c.code tag p 0x00 payload) :=
  hh.exec_reply c tag hp hc hr

/-- Every command but ATTACH and those of `whileAsleep` is refused ASLEEP, before any other check (R122). -/
theorem serve_asleep {s : State} {h : HostId} {c : Command} (hc : c.whileAsleep = false) (hn : c ≠ .attach)
    (p : List Byte) (ha : s.asleep h = true) : serve h c p s = refused s .asleep := by
  cases c
  case attach => exact absurd rfl hn
  case detach | identify | readNotices | readWake | readTick | resume => exact absurd hc (by decide)
  all_goals exact if_pos ha

/-! ### The fields of a request's parameters -/

@[simp] theorem word16At_word16Bytes_self (w : Word16) : word16At (word16Bytes w) 0 = w := by
  simpa using word16At_word16Bytes w []

@[simp] theorem addressAt_addressBytes_self (a : Address) : addressAt (addressBytes a) 0 = a := by
  simpa using addressAt_addressBytes a []

@[simp] theorem byteAt_word16Bytes_append (w : Word16) (l : List Byte) (k : Nat) :
    byteAt (word16Bytes w ++ l) (k + 2) = byteAt l k := rfl

/-- A byte that a reader takes for a value is the value's code. -/
theorem eq_byte_of_ofCode {α : Type} {all : List α} {code : α → Nat} {b : Byte} {v : α}
    (hv : ofCode all code b = some v) : b = byte (code v) := by
  have hc : code v = b.toNat := by simpa using List.find?_some hv
  rw [hc, byte_toNat_self]

theorem hostOf_some {b : Byte} {t : HostId} : hostOf b = some t ↔ b = byte t.toNat :=
  ⟨eq_byte_of_ofCode, fun e => by simp [e]⟩

/-! ### References and pending offers (R10, R38) -/

theorem State.current_iff {s : State} {i : Index} {g : Word16} :
    s.current i g = true ↔ (s.entry i).use ≠ .free ∧ (s.entry i).generation = g := by
  simp [State.current, ← Entry.isFree_iff]

theorem State.current_eq_false {s : State} {i : Index} {g : Word16} :
    s.current i g = false ↔ (s.entry i).use = .free ∨ (s.entry i).generation ≠ g := by
  rw [← Bool.not_eq_true, State.current_iff]
  tauto

theorem State.offeredClaim_some {s : State} {h : HostId} {i : Index} {c : Claim} {o : Offer} :
    s.offeredClaim h i = some (c, o) ↔ (s.entry i).use = .unicast c ∧ c.offer = some o ∧ o.target = h := by
  unfold State.offeredClaim Entry.claim?
  cases (s.entry i).use with
  | free => simp
  | group g => simp
  | unicast d =>
    simp only [Option.map_eq_some_iff, Option.filter_eq_some_iff, Prod.mk.injEq, EntryUse.unicast.injEq,
      decide_eq_true_eq]
    grind

theorem State.offeredClaim_none {s : State} {h : HostId} {i : Index} :
    s.offeredClaim h i = none ↔
      ∀ (c : Claim) (o : Offer), (s.entry i).use = .unicast c → c.offer = some o → o.target ≠ h := by
  rw [Option.eq_none_iff_forall_ne_some]
  simp only [Prod.forall, ne_eq, State.offeredClaim_some, not_and]

/-! ### Entries replaced, and the notices beside them -/

@[simp] theorem State.entry_notify (s : State) (h : HostId) (r : Report) (i : Index) :
    (s.notify h r).entry i = s.entry i := by simp [State.entry]

/-- A notice and a change of the table commute: neither reads what the other writes. -/
theorem State.notify_setEntry (s : State) (h : HostId) (r : Report) (i : Index) (e : Entry) :
    (s.notify h r).setEntry i e = (s.setEntry i e).notify h r := by
  by_cases ha : s.attached h = true
  · simp only [State.notify, State.attached_setEntry, ha, if_true]; rfl
  · simp [State.notify, ha]

theorem State.setClaim_eq {s : State} {i : Index} {g : Word16} (hg : (s.entry i).generation = g) (c : Claim) :
    s.setClaim i c = s.setEntry i { generation := g, use := .unicast c } := by rw [← hg]; rfl

theorem State.freeEntry_eq {s : State} {i : Index} {g : Word16} (hg : (s.entry i).generation = g) :
    s.freeEntry i = s.setEntry i { generation := g, use := .free } := by rw [← hg]; rfl

theorem State.endClaim_of_no_offer {s : State} {i : Index} {g : Word16} {c : Claim}
    (hg : (s.entry i).generation = g) (hc : c.offer = none) :
    s.endClaim i c = s.setEntry i { generation := g, use := .free } := by
  simp only [State.endClaim, hc, State.freeEntry_eq hg]

theorem State.endClaim_of_offer {s : State} {i : Index} {g : Word16} {c : Claim} {o : Offer}
    (hg : (s.entry i).generation = g) (hc : c.offer = some o) :
    s.endClaim i c = (s.setEntry i { generation := g, use := .free }).notify o.target
      (.offerResolved ⟨i, g⟩ .withdrawn c.owner g) := by
  simp only [State.endClaim, hc, State.freeEntry, State.notifyOffer, State.entryRef, State.entry_notify, hg,
    State.notify_setEntry]

@[simp] theorem State.entryRef_setEntry (s : State) (i : Index) (e : Entry) :
    (s.setEntry i e).entryRef i = ⟨i, e.generation⟩ := by simp [State.entryRef]

/-- The notice of an ended offer names the entry and its generation as the table holds them. -/
theorem State.notifyOffer_setEntry (s : State) (party other : HostId) (i : Index) (e : Entry) (x : OfferOutcome) :
    (s.setEntry i e).notifyOffer party other i x =
      (s.setEntry i e).notify party (.offerResolved ⟨i, e.generation⟩ x other e.generation) := by
  simp [State.notifyOffer]

end Sys2Proof.Machine
end

section
/-! YIELD, REFUSE and RETRACT (R30, R40, R41). -/

namespace Sys2Proof.Machine

/-- Settles O21: the checks of YIELD one by one, and the end of the claim with and without a pending offer. -/
theorem yieldFreesTheClaim : Obligations.YieldFreesTheClaim := by
  unfold Obligations.YieldFreesTheClaim
  rintro s h tag g k _ rfl hh
  have deny (st : Status) (e : yieldRequest h (k :: word16Bytes g) s = refused s st) :=
    hh.exec_refused .yield tag rfl nofun e
  have grant {t : State} (e : yieldRequest h (k :: word16Bytes g) s = accepted t []) :=
    hh.exec_accepted .yield tag rfl nofun e
  refine ⟨fun ha => deny .asleep (serve_asleep (c := .yield) rfl nofun _ ha),
    fun ha hk => deny .badValue (by simp [yieldRequest, ha, indexOf_none.2 hk]), ?_⟩
  rintro ha i rfl
  refine ⟨fun hn => deny .noEntry (by simp [yieldRequest, ha, State.ownClaim_none.2 hn]), fun c hc => ?_⟩
  have ends : yieldRequest h (byte i.val :: word16Bytes g) s = accepted (s.endClaim i c) [] := by
    simp [yieldRequest, ha, State.ownClaim_some.2 hc]
  refine ⟨fun hno => ?_, fun o ho => ?_⟩
  · rw [State.endClaim_of_no_offer hc.generation hno] at ends
    exact grant ends
  · rw [State.endClaim_of_offer hc.generation ho, hc.owner] at ends
    exact grant ends

/-- Settles O26: REFUSE by the offer that names the host, RETRACT by the host's own claim; both clear the offer alone. -/
theorem refuseAndRetractClearTheOffer : Obligations.RefuseAndRetractClearTheOffer := by
  unfold Obligations.RefuseAndRetractClearTheOffer
  rintro s h tag g k _ rfl hh
  have deny (st : Status) (e : refuseRequest h (k :: word16Bytes g) s = refused s st) :=
    hh.exec_refused .refuse tag rfl nofun e
  have grant {t : State} (e : refuseRequest h (k :: word16Bytes g) s = accepted t []) :=
    hh.exec_accepted .refuse tag rfl nofun e
  have deny' (st : Status) (e : retractRequest h (k :: word16Bytes g) s = refused s st) :=
    hh.exec_refused .retract tag rfl nofun e
  have grant' {t : State} (e : retractRequest h (k :: word16Bytes g) s = accepted t []) :=
    hh.exec_accepted .retract tag rfl nofun e
  refine ⟨fun ha => ⟨deny .asleep (serve_asleep (c := .refuse) rfl nofun _ ha),
      deny' .asleep (serve_asleep (c := .retract) rfl nofun _ ha)⟩,
    fun ha hk => ⟨deny .badValue (by simp [refuseRequest, ha, indexOf_none.2 hk]),
      deny' .badValue (by simp [retractRequest, ha, indexOf_none.2 hk])⟩, ?_⟩
  rintro ha i rfl
  refine ⟨fun hn => deny .noEntry (by simp [refuseRequest, ha, State.current_eq_false.2 hn]),
    fun hu hg => ⟨fun hn => ?_, fun c o hc ho hto => ?_⟩,
    fun hn => deny' .noEntry (by simp [retractRequest, ha, State.ownClaim_none.2 hn]),
    fun c hc => ⟨fun hn => ?_, fun o ho => ?_⟩⟩
  · exact deny .noOffer (by simp [refuseRequest, ha, State.current_iff.2 ⟨hu, hg⟩, State.offeredClaim_none.2 hn])
  · have clears : refuseRequest h (byte i.val :: word16Bytes g) s =
        accepted ((s.setEntry i ⟨g, .unicast { c with offer := none }⟩).notify c.owner
          (.offerResolved ⟨i, g⟩ .refused h g)) [] := by
      simp [refuseRequest, ha, State.current_iff.2 ⟨hu, hg⟩, State.offeredClaim_some.2 ⟨hc, ho, hto⟩,
        State.setClaim_eq hg, State.notifyOffer_setEntry]
    exact grant clears
  · exact deny' .noOffer (by simp [retractRequest, ha, State.ownClaim_some.2 hc, hn])
  · have clears : retractRequest h (byte i.val :: word16Bytes g) s =
        accepted ((s.setEntry i ⟨g, .unicast { c with offer := none }⟩).notify o.target
          (.offerResolved ⟨i, g⟩ .withdrawn h g)) [] := by
      simp [retractRequest, ha, State.ownClaim_some.2 hc, ho, State.setClaim_eq hc.generation,
        State.notifyOffer_setEntry]
    exact grant' clears

end Sys2Proof.Machine
end

section
/-! OFFER and ACCEPT (R36, R38, R39). -/

namespace Sys2Proof.Machine

/-! ### The target of an offer -/

/-- No host is named, or the sender itself, or one that is DETACHED: the target byte fails check 2 of R36. -/
theorem State.offerTarget_none {s : State} {h : HostId} {b : Byte} :
    (hostOf b).filter (fun t => t ≠ h && s.attached t) = none ↔
      3 < b.toNat ∨ ∃ t : HostId, b = byte t.toNat ∧ (t = h ∨ (s.host t).reach = .detached) := by
  rw [Option.filter_eq_none_iff]
  cases hb : hostOf b with
  | none => simp [hostOf_none.1 hb]
  | some t =>
    have hr : ¬ 3 < b.toNat := fun hlt => by simp [hostOf_none.2 hlt] at hb
    simp only [← hostOf_some, hb, hr, false_or, Option.some.injEq, exists_eq_left', forall_eq', State.attached,
      Bool.and_eq_true, decide_eq_true_eq, HostCtx.attached_iff]
    tauto

/-- Settles O24: the checks of OFFER one by one, and the offer with its notice. -/
theorem offerNamesTheTarget : Obligations.OfferNamesTheTarget := by
  unfold Obligations.OfferNamesTheTarget
  rintro s h tag g k target _ rfl hh
  have deny (st : Status) (e : offerRequest h (k :: word16Bytes g ++ [target]) s = refused s st) :=
    hh.exec_refused .offer tag rfl nofun e
  have grant {t : State} (e : offerRequest h (k :: word16Bytes g ++ [target]) s = accepted t []) :=
    hh.exec_accepted .offer tag rfl nofun e
  refine ⟨fun ha => deny .asleep (serve_asleep (c := .offer) rfl nofun _ ha), fun ha bad => ?_, ?_⟩
  · refine deny .badValue ?_
    rcases bad with hk | ht
    · simp [offerRequest, ha, indexOf_none.2 hk]
    · simp only [offerRequest, ha, show byteAt (k :: word16Bytes g ++ [target]) 3 = target from rfl,
        State.offerTarget_none.2 ht, Bool.false_eq_true, if_false]
      cases indexOf (byteAt (k :: word16Bytes g ++ [target]) 0) <;> rfl
  · rintro ha good i t rfl rfl
    have other : t ≠ h := fun e => good (.inr (.inr ⟨t, rfl, .inl e⟩))
    have attached : s.attached t = true :=
      (HostCtx.attached_iff _).2 fun e => good (.inr (.inr ⟨t, rfl, .inr e⟩))
    refine ⟨fun hn => deny .noEntry ?_, fun c hc => ⟨fun hs => deny .wrongState ?_, fun hs ho => deny .offerPending ?_,
      fun hs ho => ?_⟩⟩
    · simp [offerRequest, ha, Option.filter, other, attached, State.ownClaim_none.2 hn]
    · simp [offerRequest, ha, Option.filter, other, attached, State.ownClaim_some.2 hc, hs]
    · simp [offerRequest, ha, Option.filter, other, attached, State.ownClaim_some.2 hc, hs, ho]
    · have offers : offerRequest h (byte i.val :: word16Bytes g ++ [byte t.toNat]) s =
          accepted ((s.setEntry i ⟨g, .unicast { c with offer := some ⟨t, s.accord.config.stageHold⟩ }⟩).notify t
            (.offerReceived ⟨i, g⟩ h)) [] := by
        simp [offerRequest, ha, Option.filter, other, attached, State.ownClaim_some.2 hc, hs, ho,
          State.setClaim_eq hc.generation]
      exact grant offers

/-! ### The claim handed over (R39) -/

/-- A field that the law of R1 makes absent. -/
theorem eq_none_of_present {α : Type} {x : Option α} {b : Bool} (hx : x.isSome = b) (hb : b = false) : x = none := by
  simpa using hx.trans hb

/-- A LIVE claim has its timers of the other states absent (R1), so that starting its lease writes the lease alone; a
claim that is not LIVE keeps what it has. -/
theorem Claim.Lawful.handOver {c : Claim} (hc : c.Lawful) (h : HostId) :
    c.handOver h =
      if c.state = .live then
        { c with
          owner := h
          offer := none
          leaseRemaining := if c.mode = LeaseMode.pinned then none else c.reload
          activitySeen := if c.mode = LeaseMode.activity then some false else none }
      else { c with owner := h, offer := none } := by
  by_cases hs : c.state = .live
  · have stage := eq_none_of_present hc.stageTimer_present (by rw [hs]; rfl)
    have grace := eq_none_of_present hc.graceRemaining_present (by rw [hs]; rfl)
    have reload : (if c.mode = LeaseMode.pinned then none else c.reload) = c.reload := by
      split
      · next hm => exact (eq_none_of_present hc.reload_present (by rw [hm]; rfl)).symm
      · rfl
    simp only [Claim.handOver, Claim.startLease, hs, if_true, reload, stage, grace]
  · simp only [Claim.handOver, hs, if_false]

/-- Settles O25: the checks of ACCEPT one by one, and the claim handed over under the next generation. -/
theorem acceptPassesTheClaim : Obligations.AcceptPassesTheClaim := by
  unfold Obligations.AcceptPassesTheClaim
  rintro s h tag g k _ rfl hh
  have deny (st : Status) (e : acceptRequest h (k :: word16Bytes g) s = refused s st) :=
    hh.exec_refused .accept tag rfl nofun e
  have grant {t : State} {b : List Byte} (e : acceptRequest h (k :: word16Bytes g) s = accepted t b) :=
    hh.exec_accepted .accept tag rfl nofun e
  refine ⟨fun ha => deny .asleep (serve_asleep (c := .accept) rfl nofun _ ha),
    fun ha hk => deny .badValue (by simp [acceptRequest, ha, indexOf_none.2 hk]), ?_⟩
  rintro ha i rfl
  refine ⟨fun hn => deny .noEntry (by simp [acceptRequest, ha, State.current_eq_false.2 hn]), fun hu hg => ?_⟩
  have current := State.current_iff.2 ⟨hu, hg⟩
  refine ⟨fun hn => deny .noOffer (by simp [acceptRequest, ha, current, State.offeredClaim_none.2 hn]),
    fun c o hc ho hto => ?_⟩
  have offered := State.offeredClaim_some.2 ⟨hc, ho, hto⟩
  refine ⟨fun hl => deny .limitReached (by simp [acceptRequest, ha, current, offered, hl]), fun hl law => ?_⟩
  have passes : acceptRequest h (byte i.val :: word16Bytes g) s =
      accepted ((s.setEntry i ⟨g + 1, .unicast (c.handOver h)⟩).notify c.owner
        (.offerResolved ⟨i, g + 1⟩ .accepted h g)) (byte i.val :: word16Bytes (g + 1)) := by
    simp [acceptRequest, ha, current, offered, Nat.not_le.2 hl]
  rw [law.handOver h] at passes
  exact grant passes

end Sys2Proof.Machine
end

section
/-! JOIN and LEAVE (R33, R34). -/

namespace Sys2Proof.Machine

/-! ### The address in the table, and the members left -/

theorem State.groupAt_of_unheld {s : State} (law : s.TableLaw) {a : Address}
    (ha : ∀ j : Index, (s.entry j).address? ≠ some a) : s.groupAt a = none :=
  (State.groupAt_none law).2 fun i g hu e => ha i (by simp [Entry.address?, hu, e])

theorem PerHost.isEmpty_members_without {m : PerHost Bool} {h : HostId} :
    (m.set h false).members.isEmpty = true ↔ ∀ k : HostId, k ≠ h → m.get k = false := by
  simp only [List.isEmpty_iff, List.eq_nil_iff_forall_not_mem, PerHost.mem_members, PerHost.get_set]
  refine forall_congr' fun k => ?_
  by_cases hk : k = h <;> simp [hk]

/-- While another host is a member, the entry stays a group without the host (R34). -/
theorem State.removeMember_of_other {s : State} {i : Index} {g : Group} {h : HostId}
    (hk : ∃ k : HostId, k ≠ h ∧ g.members.get k = true) :
    s.removeMember i g h = s.setGroup i { g with members := g.members.set h false } := by
  obtain ⟨k, hne, hmem⟩ := hk
  have stay : ¬ (g.members.set h false).members.isEmpty = true := fun e => by
    simp [PerHost.isEmpty_members_without.1 e k hne] at hmem
  simp only [State.removeMember, stay, Bool.false_eq_true, if_false]

/-- With its last member the entry returns to FREE (R34). -/
theorem State.removeMember_of_last {s : State} {i : Index} {g : Group} {h : HostId}
    (hl : ∀ k : HostId, k ≠ h → g.members.get k = false) : s.removeMember i g h = s.freeEntry i := by
  simp only [State.removeMember, PerHost.isEmpty_members_without.2 hl, if_true]

/-- Settles O23: JOIN and LEAVE by what the table holds under the address. -/
theorem joinAndLeaveChangeTheMembers : Obligations.JoinAndLeaveChangeTheMembers := by
  unfold Obligations.JoinAndLeaveChangeTheMembers
  intro s h tag a hh law
  have deny (st : Status) (e : joinRequest h (addressBytes a) s = refused s st) :=
    hh.exec_refused .join tag rfl nofun e
  have grant {t : State} {b : List Byte} (e : joinRequest h (addressBytes a) s = accepted t b) :=
    hh.exec_accepted .join tag rfl nofun e
  have deny' (st : Status) (e : leaveRequest h (addressBytes a) s = refused s st) :=
    hh.exec_refused .leave tag rfl nofun e
  have grant' {t : State} (e : leaveRequest h (addressBytes a) s = accepted t []) :=
    hh.exec_accepted .leave tag rfl nofun e
  refine ⟨fun ha => ⟨deny .asleep (serve_asleep (c := .join) rfl nofun _ ha),
      deny' .asleep (serve_asleep (c := .leave) rfl nofun _ ha)⟩, fun ha bad => ?_, fun ha good => ?_⟩
  · have check : (!isGroupAddress a || a == broadcastAddress) = true := by simpa [broadcastAddress] using bad
    exact ⟨deny .badValue (by simp [joinRequest, ha, check]), deny' .badValue (by simp [leaveRequest, ha, check])⟩
  have check : ¬ (!isGroupAddress a || a == broadcastAddress) = true := by simpa [broadcastAddress] using good
  refine ⟨fun i grp hu hg => ?_, fun hfree => ?_⟩
  · have found := (State.groupAt_some law).2 ⟨hu, hg⟩
    have leaves (hm : grp.members.get h = true) :
        leaveRequest h (addressBytes a) s = accepted (s.removeMember i grp h) [] := by
      simp only [leaveRequest, ha, addressAt_addressBytes_self, check, found, hm, Bool.false_eq_true, if_false, if_true]
    refine ⟨fun hm => deny .alreadyMember ?_, fun hm => ⟨grant ?_, deny' .notMember ?_⟩, fun hm hk => ?_, fun hm hl => ?_⟩
    · simp only [joinRequest, ha, addressAt_addressBytes_self, check, found, hm, Bool.false_eq_true, if_false, if_true]
    · simp only [joinRequest, ha, addressAt_addressBytes_self, check, found, hm, Bool.false_eq_true, if_false]
      rfl
    · simp only [leaveRequest, ha, addressAt_addressBytes_self, check, found, hm, Bool.false_eq_true, if_false]
    · exact grant' ((leaves hm).trans (by rw [State.removeMember_of_other hk]; rfl))
    · exact grant' ((leaves hm).trans (by rw [State.removeMember_of_last hl]; rfl))
  · have unheld := State.groupAt_of_unheld law hfree
    refine ⟨deny' .notMember ?_, fun hf => deny .tableFull ?_, fun i hi => grant ?_⟩
    · simp only [leaveRequest, ha, addressAt_addressBytes_self, check, unheld, Bool.false_eq_true, if_false]
    · simp only [joinRequest, ha, addressAt_addressBytes_self, check, unheld, State.lowestFree_none.2 hf,
        Bool.false_eq_true, if_false]
    · simp only [joinRequest, ha, addressAt_addressBytes_self, check, unheld, State.lowestFree_some.2 hi,
        Bool.false_eq_true, if_false]
      rfl

end Sys2Proof.Machine
end

section
/-! STAGE (R23, R24). -/

namespace Sys2Proof.Machine

/-! ### What the checks of STAGE read -/

@[simp] theorem byteAt_addressBytes_append (a : Address) (l : List Byte) (k : Nat) :
    byteAt (addressBytes a ++ l) (k + 6) = byteAt l k := rfl

@[simp] theorem word16At_addressBytes_append (a : Address) (l : List Byte) (k : Nat) :
    word16At (addressBytes a ++ l) (k + 6) = word16At l k := rfl

theorem leaseModeOf_some {b : Byte} {m : LeaseMode} : leaseModeOf b = some m ↔ b = byte m.code :=
  ⟨eq_byte_of_ofCode, fun e => by simp [e]⟩

/-- The settings in range: a PINNED claim has no lease reload, and every other has one (R23). -/
theorem stageSettings_bytes (action : SleepAction) (m : LeaseMode) {reload : Word16}
    (hr : m = .pinned ↔ reload = 0) :
    stageSettings (byte action.code) (byte m.code) reload =
      some (action, m, if m = LeaseMode.pinned then none else some reload.toNat) := by
  unfold stageSettings
  cases m <;> simp_all

theorem byte_code_eq_zero {m : LeaseMode} : byte m.code = 0 ↔ m = .pinned := by cases m <;> decide

/-- The settings fail check 2 of R23 where a byte names no value, where PINNED comes with a lease reload, or another mode
without one. -/
theorem stageSettings_none {act mode : Byte} {reload : Word16} :
    stageSettings act mode reload = none ↔
      2 < act.toNat ∨ 2 < mode.toNat ∨ (mode = 0 ∧ reload ≠ 0) ∨ (mode ≠ 0 ∧ reload = 0) := by
  cases ha : sleepActionOf act with
  | none => simp [stageSettings, ha, sleepActionOf_none.1 ha]
  | some action =>
    cases hm : leaseModeOf mode with
    | none => simp [stageSettings, ha, hm, leaseModeOf_none.1 hm]
    | some m =>
      have act_ok : ¬ 2 < act.toNat := fun e => by simp [sleepActionOf_none.2 e] at ha
      have mode_ok : ¬ 2 < mode.toNat := fun e => by simp [leaseModeOf_none.2 e] at hm
      obtain rfl := leaseModeOf_some.1 hm
      rw [or_iff_right act_ok, or_iff_right mode_ok, ne_eq, ne_eq, byte_code_eq_zero]
      cases m <;> by_cases hr : reload = 0 <;> simp [stageSettings, ha, hr]

/-! ### The table as STAGE reads it -/

theorem State.claimAt_of_unheld {s : State} (law : s.TableLaw) {a : Address}
    (ha : ∀ j : Index, (s.entry j).address? ≠ some a) : s.claimAt a = none :=
  (State.claimAt_none law).2 fun i c hu e => ha i (by simp [Entry.address?, hu, e])

theorem State.entryPayload_of_unicast {s : State} {i : Index} {c : Claim} (hu : (s.entry i).use = .unicast c) :
    s.entryPayload i = byte i.val :: word16Bytes (s.entry i).generation ++ [byte c.state.code] := by
  simp only [State.entryPayload, Entry.stateCode, hu]

@[simp] theorem State.entryPayload_setEntry (s : State) (i : Index) (e : Entry) :
    (s.setEntry i e).entryPayload i = byte i.val :: word16Bytes e.generation ++ [byte e.stateCode] := by
  simp [State.entryPayload]

/-- A staged claim is PROBED where there is no probe window, and PROBING otherwise (R24). -/
theorem byte_code_stagedClaim (cfg : ConfigRecord) (h : HostId) (a : Address) (act : SleepAction) (m : LeaseMode)
    (reload : Option Nat) :
    byte (stagedClaim cfg h a act m reload).state.code = if cfg.probeWindow = 0 then 2 else 1 := by
  simp only [stagedClaim]
  split <;> rfl

/-- Settles O19: the checks of STAGE by the address, the settings, the entry that holds the address, the limit and the
table; and the claim staged. -/
theorem stageClaimsTheLowestFreeEntry : Obligations.StageClaimsTheLowestFreeEntry := by
  unfold Obligations.StageClaimsTheLowestFreeEntry
  rintro s h tag a act mode reload p hp hh law
  have address : addressAt p 0 = a := by rw [hp, List.append_assoc, addressAt_addressBytes]
  have settings : stageSettings (byteAt p 6) (byteAt p 7) (word16At p 8) = stageSettings act mode reload := by
    simp [hp, List.append_assoc]
  have len : Command.stage.admitsLength p.length = true := by rw [hp]; rfl
  have deny (st : Status) (e : stageRequest h p s = refused s st) := hh.exec_refused .stage tag len nofun e
  have unfit : (isGroupAddress a || a == 0) = true ↔ isGroupAddress a = true ∨ a = 0 := by simp
  refine ⟨fun ha => deny .asleep (serve_asleep (c := .stage) rfl nofun _ ha), fun ha bad => ?_, fun ha good => ?_⟩
  · refine deny .badValue ?_
    by_cases hadd : (isGroupAddress a || a == 0) = true
    · simp only [stageRequest, ha, address, hadd, Bool.false_eq_true, if_false, if_true]
    · have hset : stageSettings act mode reload = none := stageSettings_none.2 (by tauto)
      simp only [stageRequest, ha, address, hadd, settings, hset, Bool.false_eq_true, if_false]
  have hadd : ¬ (isGroupAddress a || a == 0) = true := by tauto
  obtain ⟨x, hset⟩ := Option.ne_none_iff_exists'.1 fun e => good (.inr (.inr (stageSettings_none.1 e)))
  refine ⟨fun i c hu hc => ?_, fun hfree => ?_⟩
  · have found := (State.claimAt_some law).2 ⟨hu, hc⟩
    refine ⟨fun ho => ?_, fun ho hs => deny .stagedElsewhere ?_, fun ho hs => deny .addressHeld ?_⟩
    · have yours : stageRequest h p s = (s, { status := .alreadyYours, payload := s.entryPayload i }) := by
        simp only [stageRequest, ha, address, hadd, settings, hset, found, ho, Bool.false_eq_true, if_false, if_true]
      rw [State.entryPayload_of_unicast hu] at yours
      exact hh.exec_reply .stage tag len nofun yours
    · simp only [stageRequest, ha, address, hadd, settings, hset, found, ho, Claim.bound_eq, hs, Bool.not_true,
        Bool.false_eq_true, if_false]
    · simp only [stageRequest, ha, address, hadd, settings, hset, found, ho, Claim.bound_eq, hs, Bool.not_false,
        Bool.false_eq_true, if_false, if_true]
  · have unheld := State.claimAt_of_unheld law hfree
    refine ⟨fun hl => deny .limitReached ?_, fun hl => ⟨fun hf => deny .tableFull ?_, ?_⟩⟩
    · simp only [stageRequest, ha, address, hadd, settings, hset, unheld, hl, Bool.false_eq_true, if_false, if_true]
    · simp only [stageRequest, ha, address, hadd, settings, hset, unheld, Nat.not_le.2 hl, State.lowestFree_none.2 hf,
        Bool.false_eq_true, if_false]
    · rintro i action m hi rfl rfl
      have hr : m = .pinned ↔ reload = 0 := by rw [← byte_code_eq_zero]; tauto
      have stages : stageRequest h p s =
          accepted
            (s.setEntry i
              ⟨(s.entry i).generation + 1, .unicast (stagedClaim s.accord.config h a action m
                (if m = LeaseMode.pinned then none else some reload.toNat))⟩)
            (byte i.val :: word16Bytes ((s.entry i).generation + 1) ++
              [if s.accord.config.probeWindow = 0 then 2 else 1]) := by
        simp only [stageRequest, ha, address, hadd, settings, stageSettings_bytes action m hr, unheld, Nat.not_le.2 hl,
          State.lowestFree_some.2 hi, State.entryPayload_setEntry, Entry.stateCode, byte_code_stagedClaim,
          Bool.false_eq_true, if_false]
      exact hh.exec_accepted .stage tag len nofun stages

end Sys2Proof.Machine
end

section
/-! RENEW (R61). -/

namespace Sys2Proof.Machine

/-- A lawful claim that has a lease reload is not PINNED (R1). -/
theorem Claim.Lawful.mode_ne_pinned {c : Claim} (hc : c.Lawful) {n : Nat} (hn : c.reload = some n) :
    c.mode ≠ .pinned := by
  have present := hc.reload_present
  rw [hn] at present
  simpa using present.symm

/-- A bound claim has no stage timer (R1), so that starting its lease leaves that field as it is. -/
theorem Claim.Lawful.startLease_of_bound {c : Claim} (hc : c.Lawful) (hs : c.state.staged = false) {n : Nat}
    (hn : c.reload = some n) :
    c.startLease =
      { c with
        state := .live
        leaseRemaining := some n
        activitySeen := if c.mode = LeaseMode.activity then some false else none
        graceRemaining := none } := by
  have stage := eq_none_of_present hc.stageTimer_present hs
  simp only [Claim.startLease, stage, hn]

/-- Settles O27: the checks of RENEW one by one, and the lease started in full. -/
theorem renewGivesAFullLease : Obligations.RenewGivesAFullLease := by
  unfold Obligations.RenewGivesAFullLease
  rintro s h tag g k _ rfl hh
  have deny (st : Status) (e : renewRequest h (k :: word16Bytes g) s = refused s st) :=
    hh.exec_refused .renew tag rfl nofun e
  have grant {t : State} {b : List Byte} (e : renewRequest h (k :: word16Bytes g) s = accepted t b) :=
    hh.exec_accepted .renew tag rfl nofun e
  refine ⟨fun ha => deny .asleep (serve_asleep (c := .renew) rfl nofun _ ha),
    fun ha hk => deny .badValue (by simp [renewRequest, ha, indexOf_none.2 hk]), ?_⟩
  rintro ha i rfl
  refine ⟨fun hn => deny .noEntry (by simp [renewRequest, ha, State.ownClaim_none.2 hn]), fun c hc => ?_⟩
  have own := State.ownClaim_some.2 hc
  refine ⟨fun bad => deny .wrongState ?_, fun hs law n hr => ?_⟩
  · simp [renewRequest, ha, own, Claim.bound_eq, bad]
  · have renews : renewRequest h (byte i.val :: word16Bytes g) s =
        accepted (s.setEntry i ⟨g, .unicast c.startLease⟩)
          (byte i.val :: word16Bytes g ++ [4] ++ nat16Bytes n) := by
      have live : byte (Entry.stateCode ⟨g, .unicast c.startLease⟩) = 4 := rfl
      simp [renewRequest, ha, own, Claim.bound_eq, hs, law.mode_ne_pinned hr, State.setClaim_eq hc.generation, live, hr]
    rw [law.startLease_of_bound hs hr] at renews
    exact grant renews

end Sys2Proof.Machine
end

section
/-! SUBMIT (R143, R144). -/

namespace Sys2Proof.Machine

/-! ### What the checks of SUBMIT read (R12) -/

theorem State.holding_isSome {s : State} (law : s.TableLaw) {h : HostId} {a : Address} :
    (s.holding h a).isSome = true ↔
      ∃ (i : Index) (c : Claim),
        (s.entry i).use = .unicast c ∧ c.address = a ∧ c.owner = h ∧ c.state.staged = false := by
  simp only [Option.isSome_iff_exists, Prod.exists, State.holding_some law]

/-! ### The two ends of a SUBMIT -/

/-- The activity mark reaches a claim only while it is LIVE with an ACTIVITY lease (R55). -/
theorem State.markActivity_of_unicast {s : State} {i : Index} {c : Claim} (hu : (s.entry i).use = .unicast c) :
    s.markActivity i =
      { s with
        table :=
          if c.state = ClaimState.live ∧ c.mode = LeaseMode.activity then
            s.table.set i { s.entry i with use := .unicast { c with activitySeen := some true } }
          else s.table } := by
  simp only [State.markActivity, Entry.claim?, hu]
  split <;> rfl

/-- The pool part of an accepted frame is `storeFrame`'s; each of the other steps of R144 writes its own block. -/
theorem State.acceptFrame_of_unicast {s : State} {h : HostId} {i : Index} {c : Claim} {seq : Word16}
    (hu : (s.entry i).use = .unicast c) (hseq : (s.tx h).nextSequence = some seq) (r : Handle) (rest : List Handle)
    (p : List Byte) :
    s.acceptFrame h i r rest p =
      accepted
        { s with
          table := (s.markActivity i).table
          pool := (s.storeFrame h r rest p).pool
          hosts := s.hosts.set h
            { s.host h with
              counters := { (s.host h).counters with submitted := bump (s.host h).counters.submitted } }
          arbiter :=
            { s.arbiter with
              hosts := s.arbiter.hosts.set h
                { s.tx h with
                  queue := (s.tx h).queue ++ ([⟨r, seq⟩] : List TxPosition)
                  nextSequence := some (seq + 1) } } }
        (word16Bytes seq ++ [byte ((s.tx h).queue.length + 1)]) := by
  have stored : ((s.storeFrame h r rest p).entry i).use = .unicast c := hu
  simp only [State.acceptFrame, hseq, Option.getD_some, State.markActivity_of_unicast hu,
    State.markActivity_of_unicast stored]
  rfl

/-- A frame refused at one of checks 2 to 7 of R143 shows as TX_REFUSED raised and the status without a payload. -/
theorem State.Heard.exec_submit_refused {s : State} {h : HostId} (hh : s.Heard h) (tag : Word16) {p : List Byte}
    (hp : p.length ≤ 1530) {st : Status} (hr : submitRequest h p s = s.refuseFrame h st) :
    exec (.submit h (requestBytes 0x40 tag p)) s = .next
      (({ s with
          hosts := s.hosts.set h
            { s.host h with
              counters := { (s.host h).counters with txRefused := bump (s.host h).counters.txRefused } } }).responded
        h 0x40 tag p st.code []) :=
  hh.exec_reply .submit tag (decide_eq_true hp) nofun hr

/-- Settles O47: the checks of SUBMIT by the length, the source, the destination, the queue and the two reserves; and
the frame stored and queued. -/
theorem submitChecksAndStores : Obligations.SubmitChecksAndStores := by
  unfold Obligations.SubmitChecksAndStores
  intro s h tag p ready law hp
  have awake := ready.not_asleep
  have deny (st : Status) (e : submitRequest h p s = s.refuseFrame h st) := ready.heard.exec_submit_refused tag hp e
  refine ⟨fun bad => deny .badValue ?_, fun hlo hhi => ?_⟩
  · simp only [submitRequest, awake, bad, Bool.false_eq_true, if_false, if_true]
  have len : ¬ (p.length < 60 ∨ 1514 < p.length) := by omega
  refine ⟨fun unheld => deny .sourceNotHeld ?_, fun i c source => ?_⟩
  · have lost : s.holding h (sourceOf p) = none :=
      Option.not_isSome_iff_eq_none.1 fun e => unheld ((State.holding_isSome law).1 e)
    simp only [submitRequest, awake, len, lost, Bool.false_eq_true, if_false]
  have found : s.holding h (sourceOf p) = some (i, c) := (State.holding_some law).2 source
  obtain ⟨hu, -⟩ := source
  refine ⟨fun own => deny .selfDestined ?_, fun foreign => ?_⟩
  · have self : (s.holding h (destinationOf p)).isSome = true := (State.holding_isSome law).2 own
    simp only [submitRequest, awake, len, found, self, Bool.false_eq_true, if_false, if_true]
  have other : ¬ (s.holding h (destinationOf p)).isSome = true := fun e => foreign ((State.holding_isSome law).1 e)
  refine ⟨fun full => deny .txQueueFull ?_, fun room low => deny .noHandle ?_, fun room handles low => ?_,
    fun r rest seq room head handles cells hseq => ?_⟩
  · simp only [submitRequest, awake, len, found, other, full, Bool.false_eq_true, if_false, if_true]
  · simp only [submitRequest, awake, len, found, other, Nat.not_le.2 room, low, Bool.false_eq_true, if_false, if_true]
  · obtain ⟨r, rest, head⟩ := List.exists_cons_of_length_pos (Nat.zero_lt_of_lt handles)
    have short : s.pool.freeCells.length < cellsFor p.length + 48 := low
    have enough : ¬ (r :: rest).length ≤ 8 := Nat.not_le.2 (head ▸ handles)
    refine deny .noCells ?_
    simp only [submitRequest, awake, len, found, other, Nat.not_le.2 room, head, enough, short, Bool.false_eq_true,
      if_false, if_true]
  · have enough : ¬ (r :: rest).length ≤ 8 := Nat.not_le.2 (Nat.lt_succ_of_le handles)
    have ample : ¬ s.pool.freeCells.length < cellsFor p.length + 48 := Nat.not_lt.2 cells
    have accepts : submitRequest h p s = s.acceptFrame h i r rest p := by
      simp only [submitRequest, awake, len, found, other, Nat.not_le.2 room, head, enough, ample, Bool.false_eq_true,
        if_false]
    rw [State.acceptFrame_of_unicast hu hseq, State.markActivity_of_unicast hu] at accepts
    exact ready.heard.exec_accepted .submit tag (decide_eq_true hp) nofun accepts

end Sys2Proof.Machine
end

section
/-! IDENTIFY, READ_TICK and READ_WAKE (R52, R138, R180). -/

namespace Sys2Proof.Machine

/-- IDENTIFY passes the generic checks of every host, attached or not (R173, R180). -/
theorem State.Listening.exec_identify {s : State} {h : HostId} (hl : s.Listening h) (tag : Word16) :
    exec (.identify h (requestBytes 0x03 tag [])) s =
      .next (s.responded h 0x03 tag [] 0x00 (identifyRequest h [] s).2.payload) :=
  State.exec_request hl .identify tag [] rfl (.inr rfl) nofun

/-- Settles O15: IDENTIFY's payload for each reset cause and last detach cause; the two other reads answer an attached
host with what their functions accept. -/
theorem statusReadsOfEveryHost : Obligations.StatusReadsOfEveryHost := by
  unfold Obligations.StatusReadsOfEveryHost
  intro s h tag listening
  refine ⟨?_, fun attached => ?_⟩
  · rw [listening.exec_identify]
    simp only [identifyRequest, accepted]
    cases s.resetCause <;> rcases (s.port h).lastDetach with _ | _ | _ <;> rfl
  · have heard : s.Heard h := ⟨listening, attached⟩
    exact ⟨heard.exec_accepted .readTick tag rfl nofun rfl, heard.exec_accepted .readWake tag rfl nofun rfl⟩

end Sys2Proof.Machine
end

section
/-! Notices: how one is raised for a host and for several, the bytes of its record, and READ_NOTICES (R182, R183,
section 11.7). -/

namespace Sys2Proof.Machine

/-! ### One notice -/

theorem HostCtx.addNotice_of_room {c : HostCtx} (room : c.notices.length < 16) (n : Notice) :
    c.addNotice n = { c with notices := c.notices ++ [n] } := if_pos room

theorem HostCtx.addNotice_of_full {c : HostCtx} (full : 16 ≤ c.notices.length) (n : Notice) :
    c.addNotice n = { c with lost := bumpSmall c.lost } := if_neg (Nat.not_lt.2 full)

theorem State.notify_of_detached {s : State} {h : HostId} (gone : (s.host h).reach = .detached) (r : Report) :
    s.notify h r = s :=
  if_neg fun ha => (HostCtx.attached_iff _).1 ha gone

theorem State.notify_of_attached {s : State} {h : HostId} (there : (s.host h).reach ≠ .detached) (r : Report) :
    s.notify h r = s.setHost h ((s.host h).addNotice ⟨r, s.stamp⟩) :=
  if_pos ((HostCtx.attached_iff _).2 there)

/-! ### Notices to several hosts -/

@[simp] theorem State.stamp_notify (s : State) (h : HostId) (r : Report) : (s.notify h r).stamp = s.stamp := by
  simp [State.stamp]

theorem State.host_notify_of_ne (s : State) {h k : HostId} (hk : k ≠ h) (r : Report) :
    (s.notify h r).host k = s.host k := by
  unfold State.notify
  split
  · exact (State.host_setHost s h k _).trans (if_neg hk)
  · rfl

/-- What a notice does to its host depends on nothing but that host's context and the stamp. -/
theorem State.host_notify_congr {s t : State} {k : HostId} (host : s.host k = t.host k) (stamp : s.stamp = t.stamp)
    (r : Report) : (s.notify k r).host k = (t.notify k r).host k := by
  by_cases gone : (t.host k).reach = .detached
  · rw [State.notify_of_detached gone, State.notify_of_detached (host ▸ gone), host]
  · rw [State.notify_of_attached gone, State.notify_of_attached (host ▸ gone), host, stamp]
    simp

/-- Each host named once is notified as if it were the only one, and no other host is. -/
theorem State.host_notifyAll {hs : List HostId} (nodup : hs.Nodup) (s : State) (r : Report) (k : HostId) :
    (s.notifyAll hs r).host k = if k ∈ hs then (s.notify k r).host k else s.host k := by
  induction hs generalizing s with
  | nil => rfl
  | cons h hs ih =>
    obtain ⟨absent, rest⟩ := List.nodup_cons.1 nodup
    refine (ih rest (s.notify h r)).trans ?_
    by_cases hk : k = h
    · subst hk
      simp [absent]
    · have kept := State.host_notify_of_ne s hk r
      have alone := State.host_notify_congr kept (State.stamp_notify s h r) r
      simp [hk, kept, alone]

/-- Notices change nothing but the hosts' contexts. -/
theorem State.notifyAll_withHosts (s : State) (hs : List HostId) (r : Report) :
    { s.notifyAll hs r with hosts := s.hosts } = s := by
  simp

/-! ### The bytes of a record -/

theorem noticeBytes_of_entry {r : Report} {i : Index} {g : Word16} (he : r.entry = some ⟨i, g⟩) (stamp : Word16) :
    noticeBytes ⟨r, stamp⟩ = [byte r.kindCode, byte i.val] ++ word16Bytes g ++ r.detail ++ word16Bytes stamp := by
  simp only [noticeBytes, he]
  rfl

theorem noticeBytes_of_no_entry {r : Report} (he : r.entry = none) (stamp : Word16) :
    noticeBytes ⟨r, stamp⟩ = [byte r.kindCode, 0xFF, 0, 0] ++ r.detail ++ word16Bytes stamp := by
  simp only [noticeBytes, he]
  rfl

/-- Settles O16: one notice by the host's state and the room in its list, several as one each, READ_NOTICES, and the
record of each kind by whether it names an entry. -/
theorem noticeListKeepsAndGivesNotices : Obligations.NoticeListKeepsAndGivesNotices := by
  unfold Obligations.NoticeListKeepsAndGivesNotices
  refine ⟨fun s h r => ⟨fun gone => State.notify_of_detached gone r, fun there room => ?_, fun there full => ?_⟩,
    fun s hs r nodup => ⟨State.host_notifyAll nodup s r, State.notifyAll_withHosts s hs r⟩,
    fun s h tag heard => heard.exec_accepted .readNotices tag rfl nofun rfl, ?_⟩
  · rw [State.notify_of_attached there, HostCtx.addNotice_of_room room]
    rfl
  · rw [State.notify_of_attached there, HostCtx.addNotice_of_full full]
    rfl
  · rintro stamp g i _ rfl
    have named {r : Report} (he : r.entry = some ⟨i, g⟩) := noticeBytes_of_entry he stamp
    have general {r : Report} (he : r.entry = none) := noticeBytes_of_no_entry he stamp
    exact ⟨named rfl, fun c => ⟨named rfl, named rfl, named rfl⟩, fun n => ⟨named rfl, named rfl⟩,
      fun k => ⟨named rfl, fun o offered => named rfl, fun serial => ⟨general rfl, general rfl⟩⟩,
      fun o serial => general rfl, fun generation => general rfl, general rfl, general rfl, by decide⟩

end Sys2Proof.Machine
end

section
/-! The queue of commands, and device reset (R181). -/

namespace Sys2Proof.Machine

/-- Settles O1: a step takes the command at the front of the queue. -/
theorem stepRunsTheFrontCommand : Obligations.StepRunsTheFrontCommand := by
  unfold Obligations.StepRunsTheFrontCommand
  refine ⟨fun s c rest queue => ?_, fun s idle => ?_⟩
  · simp only [step, queue]
  · simp only [step, idle]

/-! ### The values after reset -/

@[simp] theorem State.entry_reset (i : Index) : State.reset.entry i = { generation := 0, use := .free } := by
  simp [State.entry, State.reset, Entry.reset]

@[simp] theorem State.record_reset (r : Handle) : State.reset.record r = none := by
  simp [State.record, State.reset, Pool.reset]

@[simp] theorem State.host_reset (h : HostId) : State.reset.host h = .reset := PerHost.get_same ..

@[simp] theorem State.tx_reset (h : HostId) :
    State.reset.tx h = { queue := [], ring := [], nextSequence := none } := PerHost.get_same ..

@[simp] theorem State.port_reset (h : HostId) : State.reset.port h = .reset false := PerHost.get_same ..

/-- Settles O2: the blocks of `State.reset` one by one. -/
theorem resetStateOfEveryBlock : Obligations.ResetStateOfEveryBlock := by
  unfold Obligations.ResetStateOfEveryBlock
  refine ⟨State.entry_reset, rfl, ⟨rfl, rfl⟩, by simp only [State.reset, Pool.reset],
      by simp only [State.reset, Pool.reset],
    State.record_reset, ⟨rfl, rfl, rfl⟩, rfl,
    fun h => ?_, rfl, rfl, rfl⟩
  simp [State.attention, State.wakeLine, HostCtx.reset, HostCtx.attached, HostCounters.zero, Port.reset]

/-! ### Begin and end of a device reset -/

/-- Settles O4: the begin by its definition, the end by the link indication that it reads. -/
theorem deviceResetBeginsAndEnds : Obligations.DeviceResetBeginsAndEnds := by
  unfold Obligations.DeviceResetBeginsAndEnds
  refine ⟨fun s cause => rfl, fun s cause lasts => ?_, fun s runs => ?_⟩
  · have ends : exec .resetEnd s = .next (if s.line.link then
        lineWentUp { s.blocksReset with resetting := none, resetCause := cause }
        else { s.blocksReset with resetting := none, resetCause := cause }) := by
      simp only [exec, execResetEnd, deviceResetEnded, lasts]
      rfl
    rw [ends]
    cases link : s.line.link
    · simp [State.blocksReset, Line.reset, State.reset, link]
      rfl
    · simp [State.blocksReset, Line.reset, State.reset, link]
      rfl
  · simp only [exec, execResetEnd, deviceResetEnded, runs]

/-- An event that the part takes while it runs leaves the state as it is while a device reset lasts. -/
theorem running_of_resetting {s : State} (lasts : s.resetting ≠ none) (f : State → State) :
    running f s = .next s := by
  simp [running, Option.isSome_iff_ne_none.2 lasts]

/-- While a device reset lasts no byte is stored on a port (R181). -/
theorem State.shiftIn_of_resetting {s : State} (lasts : s.resetting ≠ none) (h : HostId) (row : List Byte) :
    s.shiftIn h row = s := by
  simp [State.shiftIn, Option.isSome_iff_ne_none.2 lasts]

/-- Settles O5: each row either shifts bytes in, which stores none, or is an event that the part does not take. -/
theorem duringDeviceResetNoEventIsTaken : Obligations.DuringDeviceResetNoEventIsTaken := by
  unfold Obligations.DuringDeviceResetNoEventIsTaken
  intro s lasts
  have on : s.resetting.isSome = true := Option.isSome_iff_ne_none.2 lasts
  have ignores (h : HostId) (row : List Byte) : shifted h row s = .next s :=
    congrArg _ (s.shiftIn_of_resetting lasts h row)
  refine ⟨fun i begins ends asserts releases up down => ?_, fun h => ⟨?_, rfl⟩, ?_, ?_, fun h => ⟨?_, ?_⟩, ?_⟩
  · cases i
    case deviceReset c => exact absurd rfl (begins c)
    case resetEnd => exact absurd rfl ends
    case portReset h => exact absurd rfl (asserts h)
    case portResetRelease h => exact absurd rfl (releases h)
    case lineUpEvent => exact absurd rfl up
    case lineDownEvent => exact absurd rfl down
    case selectAsserted h => simp [exec, execSelectAsserted, State.beginTransaction, on]
    case selectReleased h => simp [exec, execSelectReleased, State.endTransaction, on]
    all_goals first | exact ignores _ _ | exact running_of_resetting lasts _
  · simp [exec, execPortReset, on]; rfl
  · simp [exec, execLineUpEvent, on]; rfl
  · simp [exec, execLineDownEvent, on]; rfl
  · simp [State.attention, lasts]
  · simp [State.wakeLine, lasts]
  · unfold State.wireBytes
    split
    · next runs _ => exact absurd runs lasts
    · rfl

end Sys2Proof.Machine
end

section
/-! The transaction on a port (R171 to R177): when bytes make a whole request, the phases, and the generic checks. -/

namespace Sys2Proof.Machine

/-! ### Whole requests -/

theorem byteAt_take {l : List Byte} {k n : Nat} (hk : k < n) : byteAt (l.take n) k = byteAt l k := by
  simp [byteAt, hk]

theorem requestLength_take {l : List Byte} {n : Nat} (hn : 5 ≤ n) : requestLength (l.take n) = requestLength l := by
  simp only [requestLength, word16At]
  rw [byteAt_take (by omega), byteAt_take (by omega)]

theorem requestEnd_eq_some {b : List Byte} {n : Nat} :
    requestEnd b = some n ↔
      (5 ≤ b.length ∧ 1530 < requestLength b ∧ n = 5) ∨
        (requestLength b ≤ 1530 ∧ n = requestLength b + 6 ∧ n ≤ b.length) := by
  simp only [requestEnd, requestLength, Config.maxParameters]
  split
  · simp; omega
  · split
    · simp; omega
    · split <;> simp <;> omega

/-- A request is complete with its last byte, not before, and bytes after it do not change it (R172). -/
theorem requestEnd_take {b : List Byte} {n : Nat} (hb : requestEnd b = some n) (m : Nat) :
    requestEnd (b.take m) = if n ≤ m then some n else none := by
  by_cases hm : 5 ≤ m
  · have hl := requestLength_take (l := b) hm
    split
    · next hn =>
      rw [requestEnd_eq_some] at hb ⊢
      simp only [hl, List.length_take]
      omega
    · next hn =>
      rw [Option.eq_none_iff_forall_ne_some]
      intro k hk
      rw [requestEnd_eq_some] at hb hk
      simp only [hl, List.length_take] at hk
      omega
  · have short : (b.take m).length < 5 := by simp; omega
    have long : ¬ n ≤ m := by rw [requestEnd_eq_some] at hb; omega
    rw [if_neg long, requestEnd, if_pos short]

theorem requestEnd_le {b : List Byte} {n : Nat} (hb : requestEnd b = some n) : n ≤ b.length := by
  rw [requestEnd_eq_some] at hb
  omega

/-- Settles O59: the fields of a request by their places, and its end by `requestEnd_take`. -/
theorem requestReadsBack : Obligations.RequestReadsBack := by
  unfold Obligations.RequestReadsBack
  intro code tag p hp req
  have len : req.length = p.length + 6 := by simp [req, length_requestBytes]
  have whole : requestEnd req = some req.length := len ▸ requestEnd_requestBytes code tag p hp
  refine ⟨len, whole, fun n hn => ?_, byteSum_requestBytes code tag p, requestTag_requestBytes code tag p,
    requestLength_requestBytes code tag p hp, requestParams_requestBytes code tag p hp⟩
  rw [requestEnd_take whole n, if_neg (Nat.not_le.2 hn)]

/-! ### Select and the port reset input -/

theorem State.attached_eq_false {s : State} {h : HostId} : s.attached h = false ↔ (s.host h).reach = .detached := by
  rw [← Bool.not_eq_true, State.attached, HostCtx.attached_iff, not_not]

theorem State.beginTransaction_of_idle {s : State} {h : HostId} (runs : s.resetting = none)
    (released : (s.port h).held = false) (idle : (s.port h).phase = .idle) :
    s.beginTransaction h = s.setPort h { (s.port h).abort with phase := .request } := by
  simp [State.beginTransaction, runs, released, idle]

theorem State.beginTransaction_of_deaf {s : State} {h : HostId}
    (deaf : (s.port h).held = true ∨ (s.port h).phase ≠ .idle) : s.beginTransaction h = s := by
  simp only [State.beginTransaction]
  rcases deaf with held | busy
  · simp [held]
  · cases hp : (s.port h).phase <;> simp_all

theorem State.endTransaction_of_runs {s : State} (runs : s.resetting = none) (h : HostId) :
    s.endTransaction h = s.setPort h (s.port h).abort := by
  simp [State.endTransaction, runs]

theorem execPortReset_of_runs {s : State} (runs : s.resetting = none) (h : HostId) :
    execPortReset h s = .next (portResetAsserted h s) := by
  simp [execPortReset, runs]

/-- The port reset input of a DETACHED host aborts its transaction and nothing else (R177). -/
theorem portResetAsserted_of_detached {s : State} {h : HostId} (gone : (s.host h).reach = .detached) :
    portResetAsserted h s = s.setPort h { (s.port h).abort with held := true } := by
  simp [portResetAsserted, State.attached_eq_false.2 gone]

/-- Settles O6: the port by its phase and the level of its reset input. -/
theorem selectAndPortResetAtAPort : Obligations.SelectAndPortResetAtAPort := by
  unfold Obligations.SelectAndPortResetAtAPort
  intro s h runs
  exact ⟨fun released idle => congrArg _ (State.beginTransaction_of_idle runs released idle),
    fun deaf => congrArg _ (State.beginTransaction_of_deaf deaf), congrArg _ (State.endTransaction_of_runs runs h),
    fun gone => (execPortReset_of_runs runs h).trans (congrArg _ (portResetAsserted_of_detached gone)), rfl⟩

/-! ### Bytes shifted in, by phase -/

theorem State.shiftIn_of_deaf {s : State} {h : HostId} (deaf : (s.port h).held = true ∨ (s.port h).phase = .idle)
    (row : List Byte) : s.shiftIn h row = s := by
  simp only [State.shiftIn]
  rcases deaf with held | idle
  · simp [held]
  · simp [idle]

theorem State.shiftIn_of_response {s : State} {h : HostId} (runs : s.resetting = none)
    (released : (s.port h).held = false) (phase : (s.port h).phase = .response) (row : List Byte) :
    s.shiftIn h row =
      s.setPort h { s.port h with shifted := min ((s.port h).shifted + row.length) (s.port h).response.length } := by
  simp [State.shiftIn, runs, released, phase]

theorem State.shiftIn_of_partial {s : State} {h : HostId} (runs : s.resetting = none)
    (released : (s.port h).held = false) (phase : (s.port h).phase = .request) {row : List Byte}
    (partly : requestEnd ((s.port h).request ++ row) = none) :
    s.shiftIn h row = s.setPort h { s.port h with request := (s.port h).request ++ row } := by
  simp [State.shiftIn, runs, released, phase, partly]

theorem State.shiftIn_of_whole {s : State} {h : HostId} (runs : s.resetting = none)
    (released : (s.port h).held = false) (phase : (s.port h).phase = .request) {row : List Byte} {n : Nat}
    (whole : requestEnd ((s.port h).request ++ row) = some n) :
    s.shiftIn h row =
      s.takeRequest h (((s.port h).request ++ row).take n) (((s.port h).request ++ row).length - n) := by
  simp [State.shiftIn, runs, released, phase, whole]

/-- Taking a request does not depend on what its port's request buffer holds. -/
theorem State.takeRequest_setRequest (s : State) (h : HostId) (q req : List Byte) (extra : Nat) :
    (s.setPort h { s.port h with request := q }).takeRequest h req extra = s.takeRequest h req extra := by
  simp [State.takeRequest, State.answer_setRequest, Port.respond]
  simp [State.setPort]

/-- A whole request in one row, on an empty request buffer. -/
theorem State.shiftIn_emptied {s : State} {h : HostId} (runs : s.resetting = none)
    (released : (s.port h).held = false) (phase : (s.port h).phase = .request) {req : List Byte}
    (whole : requestEnd req = some req.length) :
    (s.setPort h { s.port h with request := [] }).shiftIn h req = s.takeRequest h req 0 := by
  rw [State.shiftIn_of_whole (s := s.setPort h { s.port h with request := [] }) (n := req.length) runs
    (by rw [State.port_setPort_self]; exact released) (by rw [State.port_setPort_self]; exact phase)
    (by rw [State.port_setPort_self]; exact whole)]
  simp [State.takeRequest_setRequest]

theorem State.takeRequest_extra (s : State) (h : HostId) (req : List Byte) (extra : Nat) :
    s.takeRequest h req extra =
      (s.takeRequest h req 0).setPort h
        { (s.takeRequest h req 0).port h with
          shifted := min extra ((s.takeRequest h req 0).port h).response.length } := by
  simp [State.takeRequest, Port.respond]
  simp [State.setPort]

theorem responseBytes_ne_nil (tag : Word16) (r : Reply) : responseBytes tag r ≠ [] := by simp [responseBytes]

/-- Settles O7: a row by the phase of its port; a completed request is taken as if it had come in one row. -/
theorem bytesShiftedInByPhase : Obligations.BytesShiftedInByPhase := by
  unfold Obligations.BytesShiftedInByPhase
  intro s i h row hi runs
  rw [exec_spells hi]
  refine ⟨fun deaf => congrArg _ (State.shiftIn_of_deaf deaf row), fun released phase partly => ?_,
    fun released phase => congrArg _ (State.shiftIn_of_response runs released phase row),
    fun n j released phase whole hj => ?_, fun silent => ?_, fun released phase => ⟨fun b hb => ?_, fun last => ?_, ?_⟩⟩
  · exact congrArg _ (State.shiftIn_of_partial runs released phase partly)
  · change requestEnd ((s.port h).request ++ row) = some n at whole
    have all : requestEnd (((s.port h).request ++ row).take n) = some n := by
      simpa using requestEnd_take whole n
    have len : (((s.port h).request ++ row).take n).length = n := by simpa using requestEnd_le whole
    let u := s.takeRequest h (((s.port h).request ++ row).take n) 0
    have alone : exec j (s.setPort h { s.port h with request := [] }) = .next u :=
      (exec_spells hj _).trans (congrArg _ (State.shiftIn_emptied runs released phase (len.symm ▸ all)))
    refine ⟨u, alone, ?_, ?_, ?_, ?_⟩
    · simp [u, State.takeRequest, Port.respond]
    · simp [u, State.takeRequest, Port.respond]
    · simp [u, State.takeRequest, Port.respond, responseBytes_ne_nil]
    · rw [State.shiftIn_of_whole runs released phase whole]
      rw [State.takeRequest_extra, List.length_append]
      rfl
  · unfold Port.dataOut
    rcases silent with held | quiet
    · simp [held]
    · cases hp : (s.ports.get h).phase <;> simp_all
  · simp [Port.dataOut, released, phase, hb]
  · simp [Port.dataOut, released, phase, last]
  · refine ⟨_, congrArg _ (State.shiftIn_of_response runs released phase row), ?_⟩
    have port : ∀ p, (s.setPort h p).ports.get h = p := State.port_setPort_self s h
    simp only [port, Port.dataOut, State.port, released, phase]
    by_cases hlt : (s.ports.get h).shifted + row.length < (s.ports.get h).response.length
    · simp [Nat.min_eq_left hlt.le]
    · simp [Nat.min_eq_right (Nat.not_lt.1 hlt), List.getElem?_eq_none (Nat.not_lt.1 hlt)]

/-! ### The generic checks (R173) -/

theorem Command.code_of_ofCode {b : Byte} {c : Command} (hc : Command.ofCode b = some c) : b = c.code := by
  have found : c.code = b := by simpa using List.find?_some hc
  exact found.symm

theorem Command.needsAttachment_of_ne {c : Command} (ha : c ≠ .attach) (hi : c ≠ .identify) :
    c.needsAttachment = true := by
  cases c <;> first | rfl | exact absurd rfl ha | exact absurd rfl hi

/-- A request that fails a generic check changes nothing but its port, which holds the status and no payload. -/
theorem State.exec_unchecked {s : State} {i : Instr} {h : HostId} {row : List Byte} (hi : i.Spells h row)
    (hl : s.Listening h) (hr : requestEnd row = some row.length) {st : Status}
    (hg : genericCheck s h row = .error st) :
    exec i s = .next (s.answered h row (requestTag row) st.code []) := by
  rw [State.exec_whole hi hl hr]
  simp only [State.answer, hg]
  rfl

theorem genericCheck_of_unnamed {s : State} {h : HostId} {row : List Byte} (hlen : requestLength row ≤ 1530)
    (sum : byteSum row = 0) (unnamed : Command.ofCode (byteAt row 0) = none) :
    genericCheck s h row = .error .unknownCommand := by
  have header : takenAtHeader row = false := by simp [takenAtHeader, Config.maxParameters, hlen]
  simp [genericCheck, header, sum, unnamed]

/-- The checks that come after the command code, on a request with a length in range. -/
theorem genericCheck_of_named {s : State} {h : HostId} {row : List Byte} (hlen : requestLength row ≤ 1530)
    (sum : byteSum row = 0) {c : Command} (named : Command.ofCode (byteAt row 0) = some c) :
    genericCheck s h row =
      if !c.admitsLength (requestLength row) then .error .format
      else if !s.attached h && c.needsAttachment then .error .notAttached
      else if s.attached h && c = .attach then .error .alreadyAttached
      else .ok c := by
  have header : takenAtHeader row = false := by simp [takenAtHeader, Config.maxParameters, hlen]
  simp [genericCheck, header, sum, named]

/-- Settles O8: the checks of R173 one after another. -/
theorem genericChecksInOrder : Obligations.GenericChecksInOrder := by
  unfold Obligations.GenericChecksInOrder
  have checks : ∀ (s : State) (i : Instr) (h : HostId) (row : List Byte), i.Spells h row → s.Listening h →
      requestLength row ≤ 1530 → row.length = requestLength row + 6 → byteSum row = 0 →
      Command.ofCode (byteAt row 0) = none → exec i s = .next (s.answered h row (requestTag row) 0x03 []) := by
    intro s i h row hi hl hlen hrow sum unnamed
    refine State.exec_unchecked (st := .unknownCommand) hi hl ?_ ?_
    · rw [requestEnd_eq_some]; omega
    · exact genericCheck_of_unnamed hlen sum unnamed
  refine ⟨fun s i h row hi hl => ⟨fun five long => ?_, fun hlen hrow => ?_⟩, fun s h code tag p hl hp unnamed => ?_⟩
  · refine State.exec_unchecked (st := .format) hi hl ?_ ?_
    · rw [requestEnd_eq_some]; omega
    · simp [genericCheck, takenAtHeader, Config.maxParameters, long]
  · have whole : requestEnd row = some row.length := by rw [requestEnd_eq_some]; omega
    refine ⟨fun sum => ?_, checks s i h row hi hl hlen hrow, fun c sum named => ⟨fun bad => ?_,
        fun fits gone ha hid => ?_,
      fun fits there ha => ?_⟩⟩
    · refine State.exec_unchecked (st := .check) hi hl whole ?_
      have header : ¬ takenAtHeader row = true := by simpa [takenAtHeader] using hlen
      rw [genericCheck, if_neg header, if_pos sum]
    · refine State.exec_unchecked (st := .format) hi hl whole ?_
      simp [genericCheck_of_named hlen sum named, bad]
    · refine State.exec_unchecked (st := .notAttached) hi hl whole ?_
      simp [genericCheck_of_named hlen sum named, fits, State.attached_eq_false.2 gone,
        Command.needsAttachment_of_ne ha hid]
    · have attached : s.attached h = true := (HostCtx.attached_iff _).2 there
      refine State.exec_unchecked (st := .alreadyAttached) hi hl whole ?_
      simp [genericCheck_of_named hlen sum named, fits, attached, ← ha]
  · have len := requestLength_requestBytes code tag p hp
    have out := checks s (.unknownCommand h code (requestBytes code tag p)) h (code :: requestBytes code tag p)
      (.inr ⟨code, _, rfl, rfl⟩) hl (by omega) (by rw [len, List.length_cons, length_requestBytes])
      (byteSum_requestBytes code tag p) unnamed
    rw [requestTag_requestBytes] at out
    exact out

/-- Settles O10: the ASLEEP refusal before every other check, the six commands of an asleep host, and the check of a
DETACHED host. -/
theorem commandsOfAnAsleepOrDetachedHost : Obligations.CommandsOfAnAsleepOrDetachedHost := by
  unfold Obligations.CommandsOfAnAsleepOrDetachedHost
  intro s h c tag p hl hp
  have heard (asleep : s.asleep h = true) : s.Heard h :=
    ⟨hl, fun gone => by simp [State.asleep, gone, Reach.isAsleep] at asleep⟩
  refine ⟨fun asleep hw ha => (heard asleep).exec_refused c tag hp ha (serve_asleep hw ha p asleep),
    fun asleep hw => ?_, fun gone ha hid => ?_⟩
  · have accepts : ∃ t payload, serve h c p s = accepted t payload := by
      cases c
      case detach | identify | readNotices | readWake | readTick | resume => exact ⟨_, _, rfl⟩
      all_goals exact absurd hw (by decide)
    obtain ⟨t, payload, e⟩ := accepts
    exact ⟨t, payload, (heard asleep).exec_accepted c tag hp (by rintro rfl; exact absurd hw (by decide)) e⟩
  · have len := requestLength_requestBytes c.code tag p (c.length_le hp)
    have out := State.exec_unchecked (st := .notAttached) (.inl ⟨c, requestBytes c.code tag p, rfl, rfl⟩) hl
      (by rw [requestEnd_requestBytes c.code tag p (c.length_le hp), List.length_cons, length_requestBytes])
      (by
        rw [genericCheck_of_named (by rw [len]; exact c.length_le hp) (byteSum_requestBytes c.code tag p)
          (c.ofCode_code)]
        simp [len, hp, State.attached_eq_false.2 gone, Command.needsAttachment_of_ne ha hid])
    rw [requestTag_requestBytes] at out
    exact out

/-! ### Answers -/

theorem Status.code_le (st : Status) : st.code.toNat ≤ 0x20 := by cases st <;> decide

theorem Status.code_eq_zero {st : Status} : st.code = 0 ↔ st = .ok := by cases st <;> decide

/-- Settles O11: every whole row is answered, whatever it asks. -/
theorem everyWholeRequestIsAnswered : Obligations.EveryWholeRequestIsAnswered := by
  unfold Obligations.EveryWholeRequestIsAnswered
  intro s i h row hi hl hr
  refine ⟨(s.answer h row).1, (s.answer h row).2.status.code, (s.answer h row).2.payload, State.exec_whole hi hl hr,
    Status.code_le _, byteSum_checkByte _⟩

end Sys2Proof.Machine
end

section
/-! Refused requests, ATTACH, the mask and the sideband lines, the counters (R174, R178, R184, R185). -/

namespace Sys2Proof.Machine

/-! ### Refused requests -/

/-- A command that is refused leaves the part as it is, but for TX_REFUSED at a refused SUBMIT (R174, R143). -/
theorem serve_refused {h : HostId} {c : Command} {p : List Byte} {s : State} (hr : (serve h c p s).2.status ≠ .ok) :
    (serve h c p s).1 = s ∨
      (c = .submit ∧ (serve h c p s).1 = s.countHost h (fun c => { c with txRefused := bump c.txRefused })) := by
  revert hr
  cases c
  all_goals simp only [serve, attachRequest, detachRequest, identifyRequest, readNoticesRequest, setNoticeMaskRequest,
    readCountersRequest, clearCountersRequest, readTickRequest, stageRequest, bindRequest, yieldRequest,
    setActionRequest, joinRequest, leaveRequest, offerRequest, acceptRequest, refuseRequest, retractRequest,
    renewRequest, lookupRequest, listHeldRequest, poolStatusRequest, lineStatusRequest, readFrameRequest,
    ackFrameRequest, queueStatusRequest, dozeRequest, sleepRequest, resumeRequest, readWakeRequest,
    setHostParamsRequest, submitRequest, readCompletionsRequest, readConfigRequest, proposeRequest, endorseRequest,
    declineRequest, withdrawRequest, refused, accepted, State.acceptFrame, State.refuseFrame]
  all_goals repeat' split
  all_goals simp

/-- A request that is refused, by a generic check or by its command, leaves the part as it is, but for TX_REFUSED at a
refused SUBMIT. -/
theorem State.answer_refused {s : State} {h : HostId} {req : List Byte} (hr : (s.answer h req).2.status ≠ .ok) :
    (s.answer h req).1 = s ∨
      (byteAt req 0 = 0x40 ∧
        (s.answer h req).1 = s.countHost h (fun c => { c with txRefused := bump c.txRefused })) := by
  cases hg : genericCheck s h req with
  | error st => simp [State.answer, hg, refused]
  | ok c =>
    have answers : s.answer h req = serve h c (requestParams req) s := by simp only [State.answer, hg]
    rw [answers] at hr ⊢
    refine (serve_refused hr).imp_right fun ⟨submit, counted⟩ => ⟨?_, counted⟩
    have code : Command.ofCode (byteAt req 0) = some c := by
      unfold genericCheck at hg
      repeat' split at hg
      all_goals cases hg
      assumption
    rw [Command.code_of_ofCode code, submit]
    rfl

/-- Settles O12: the answer of a refused request, over `answered`, which writes the port alone. -/
theorem refusedRequestsChangeNothing : Obligations.RefusedRequestsChangeNothing := by
  unfold Obligations.RefusedRequestsChangeNothing
  intro s t i h row hi hl hr ht refusal
  rw [State.exec_whole hi hl hr] at ht
  obtain rfl := Host.Outcome.next.inj ht
  have port (u : State) (st : Byte) (b : List Byte) :
      (u.answered h row (requestTag row) st b).ports.get h = ⟨.response, row, responseFrame st (requestTag row) b, 0,
        false, (u.ports.get h).lastDetach⟩ := PerHost.get_set_self ..
  have status : (s.answer h row).2.status ≠ .ok := fun ok => refusal <| by
    simp only [State.port, port, ok]
    rfl
  rcases State.answer_refused status with same | ⟨submit, counted⟩
  · left
    simp only [State.port, port, same]
    rfl
  · refine .inr ⟨submit, ?_⟩
    simp only [State.port, port, counted]
    rfl

/-! ### Attachment -/

/-- Settles O13: ATTACH passes the generic checks of a DETACHED host, and its acceptance writes the two blocks. -/
theorem attachMakesTheHostAwake : Obligations.AttachMakesTheHostAwake := by
  unfold Obligations.AttachMakesTheHostAwake
  intro s h tag hl gone
  exact State.exec_request hl .attach tag [] rfl (.inr rfl) fun _ => State.attached_eq_false.2 gone

/-! ### The mask and the sideband lines -/

theorem HostCtx.ready_iff (c : HostCtx) :
    c.ready = true ↔
      (c.reach = .awake ∧ c.rxQueue ≠ []) ∨
        (c.reach = .dozing ∧ (c.params.dozeThreshold ≤ c.rxQueue.length ∨ c.delayReached = true)) := by
  unfold HostCtx.ready
  cases c.reach <;> simp

theorem State.attention_iff (s : State) (h : HostId) :
    s.attention h = true ↔
      s.resetting = none ∧ (s.host h).reach ≠ .detached ∧
        ((∃ n ∈ (s.host h).notices, ((s.host h).mask.getD 0).getLsbD n.report.kindCode = true) ∨
          (((s.host h).mask.getD 0).getLsbD 13 = true ∧ (s.host h).ready = true) ∨
          (((s.host h).mask.getD 0).getLsbD 14 = true ∧ (s.tx h).ring ≠ [])) := by
  simp [State.attention, HostCtx.attached_iff, rxBit, txBit, and_assoc, or_assoc]

/-- Settles O17: SET_NOTICE_MASK by bit 15, and the lines by `attention_iff` and `ready_iff`. -/
theorem maskAndSidebandLines : Obligations.MaskAndSidebandLines := by
  unfold Obligations.MaskAndSidebandLines
  refine ⟨fun s h tag mask ready => ⟨fun bit => ?_, fun bit => ?_⟩,
    fun s h => ⟨HostCtx.ready_iff _, fun mask hm => ?_, ?_, fun off => ?_, fun gone => ?_⟩⟩
  · have msb : mask.msb = true := (BitVec.msb_eq_getLsbD_last mask).trans bit
    refine ready.heard.exec_refused .setNoticeMask tag (st := .badValue) rfl nofun ?_
    simp [serve, setNoticeMaskRequest, ready.not_asleep, msb]
  · have msb : mask.msb = false := (BitVec.msb_eq_getLsbD_last mask).trans bit
    refine ready.heard.exec_accepted .setNoticeMask tag rfl nofun
      (t := s.setHost h { s.host h with mask := some mask }) ?_
    simp [serve, setNoticeMaskRequest, ready.not_asleep, msb]
  · simp only [State.attention_iff, hm, Option.getD_some, HostCtx.ready_iff]
  · simp [State.wakeLine]
  · rw [← Bool.not_eq_true, State.attention_iff]
    rcases off with unmasked | gone
    · simp [unmasked]
    · simp [gone]
  · simp [State.wakeLine, gone]

/-! ### Counters -/

/-- Settles O18: the counters in the order of their bytes, and the host's own set to 0. -/
theorem countersReadAndCleared : Obligations.CountersReadAndCleared := by
  unfold Obligations.CountersReadAndCleared
  refine ⟨⟨fun n hn => if_pos hn, rfl⟩, fun s h tag ready => ⟨?_, ?_⟩⟩
  · rintro _ _ rfl rfl
    refine ready.heard.exec_accepted .readCounters tag rfl nofun ?_
    simp [serve, readCountersRequest, ready.not_asleep, deviceCounterBytes, hostCounterBytes]
  · refine ready.heard.exec_accepted .clearCounters tag rfl nofun
      (t := s.countHost h (fun _ => .zero)) ?_
    simp [serve, clearCountersRequest, ready.not_asleep]

end Sys2Proof.Machine
end

section
/-! BIND and SET_ACTION (R28, R32). -/

namespace Sys2Proof.Machine

/-- A PINNED claim has no lease reload (R1). -/
theorem Claim.Lawful.reload_of_mode {c : Claim} (hc : c.Lawful) :
    (if c.mode = LeaseMode.pinned then none else c.reload) = c.reload := by
  split
  · next hm => exact (eq_none_of_present hc.reload_present (by rw [hm]; rfl)).symm
  · rfl

/-- Settles O20: the checks of BIND one by one, and the lease started. -/
theorem bindTakesAProbedClaimToLive : Obligations.BindTakesAProbedClaimToLive := by
  unfold Obligations.BindTakesAProbedClaimToLive
  rintro s h tag g k _ rfl hh
  have deny (st : Status) (e : bindRequest h (k :: word16Bytes g) s = refused s st) :=
    hh.exec_refused .bind tag rfl nofun e
  refine ⟨fun ha => deny .asleep (serve_asleep (c := .bind) rfl nofun _ ha),
    fun ha hk => deny .badValue (by simp [bindRequest, ha, indexOf_none.2 hk]), ?_⟩
  rintro ha i rfl
  refine ⟨fun hn => deny .noEntry (by simp [bindRequest, ha, State.ownClaim_none.2 hn]), fun c hc => ?_⟩
  have own := State.ownClaim_some.2 hc
  refine ⟨fun hs => deny .notProbed (by simp [bindRequest, ha, own, hs]),
    fun hs => deny .conflicted (by simp [bindRequest, ha, own, hs]), fun hs => deny .wrongState ?_, fun hs law => ?_⟩
  · rcases hs with hs | hs <;> simp [bindRequest, ha, own, hs]
  · have grace := eq_none_of_present law.graceRemaining_present (by rw [hs]; rfl)
    have binds : bindRequest h (byte i.val :: word16Bytes g) s =
        accepted (s.setEntry i ⟨g, .unicast { c.startLease with collisions := some 0 }⟩)
          (byte i.val :: word16Bytes g ++ [4]) := by
      have live : byte (Entry.stateCode ⟨g, .unicast { c.startLease with collisions := some 0 }⟩) = 4 := rfl
      simp [bindRequest, ha, own, hs, State.setClaim_eq hc.generation, live]
    have lease : { c.startLease with collisions := some 0 } =
        { c with
          state := .live
          stageTimer := none
          leaseRemaining := if c.mode = LeaseMode.pinned then none else c.reload
          activitySeen := if c.mode = LeaseMode.activity then some false else none
          collisions := some 0 } := by
      simp only [Claim.startLease, law.reload_of_mode, grace]
    rw [lease] at binds
    exact hh.exec_accepted .bind tag rfl nofun binds

/-- Settles O22: the checks of SET_ACTION one by one, and the action set. -/
theorem setActionChangesTheSleepAction : Obligations.SetActionChangesTheSleepAction := by
  unfold Obligations.SetActionChangesTheSleepAction
  rintro s h tag g k act _ rfl hh
  have deny (st : Status) (e : setActionRequest h (k :: word16Bytes g ++ [act]) s = refused s st) :=
    hh.exec_refused .setAction tag rfl nofun e
  refine ⟨fun ha => deny .asleep (serve_asleep (c := .setAction) rfl nofun _ ha), fun ha bad => deny .badValue ?_, ?_⟩
  · simp only [setActionRequest, ha, show byteAt (k :: word16Bytes g ++ [act]) 0 = k from rfl,
      show byteAt (k :: word16Bytes g ++ [act]) 3 = act from rfl, Bool.false_eq_true, if_false]
    rcases bad with hk | hact
    · rw [indexOf_none.2 hk]
    · rw [sleepActionOf_none.2 hact]
      cases indexOf k <;> rfl
  · rintro ha i action rfl rfl
    refine ⟨fun hn => deny .noEntry ?_, fun c hc => ⟨fun hs => deny .wrongState ?_, fun hs => ?_⟩⟩
    · simp [setActionRequest, ha, State.ownClaim_none.2 hn]
    · simp [setActionRequest, ha, State.ownClaim_some.2 hc, Claim.bound_eq, hs]
    · have sets : setActionRequest h (byte i.val :: word16Bytes g ++ [byte action.code]) s =
          accepted (s.setEntry i ⟨g, .unicast { c with action := action }⟩) [] := by
        simp [setActionRequest, ha, State.ownClaim_some.2 hc, Claim.bound_eq, hs, State.setClaim_eq hc.generation]
      exact hh.exec_accepted .setAction tag rfl nofun sets

end Sys2Proof.Machine
end

section
/-! Tick events and the expiries of the table's timers (R5, R25, R27, R42, R49 to R60). -/

namespace Sys2Proof.Machine

/-- An event that the part takes while it runs. -/
theorem running_of_runs {s : State} (runs : s.resetting = none) (f : State → State) : running f s = .next (f s) := by
  simp [running, runs]

theorem State.entry_ticked (s : State) (i : Index) : (ticked s).entry i = (s.entry i).tick :=
  mapVector_getElem _ _ _ _

@[simp] theorem State.host_ticked (s : State) (h : HostId) : (ticked s).host h = (s.host h).tick :=
  PerHost.get_map ..

/-- Settles O31: the blocks that a tick event writes, and no other. -/
theorem tickLowersEveryTimer : Obligations.TickLowersEveryTimer := by
  unfold Obligations.TickLowersEveryTimer
  intro s runs
  refine ⟨ticked s, running_of_runs runs ticked, rfl, fun i => ?_, State.host_ticked s, rfl, rfl⟩
  rw [State.entry_ticked]
  obtain ⟨generation, use⟩ := s.entry i
  cases use <;> rfl

/-! ### What an expiry finds -/

theorem State.stageExpired_of_unicast {s : State} {i : Index} {c : Claim} (hu : (s.entry i).use = .unicast c)
    (sts : List ClaimState) :
    s.stageExpired i sts = if sts.contains c.state ∧ c.stageTimer = some 0 then some c else none := by
  simp [State.stageExpired, Entry.claim?, hu, Option.filter]

theorem State.stageExpired_of_no_claim {s : State} {i : Index} (hc : (s.entry i).claim? = none)
    (sts : List ClaimState) : s.stageExpired i sts = none := by
  simp [State.stageExpired, hc]

/-- A notice and an entry's return to FREE commute. -/
theorem State.notify_freeEntry (s : State) (h : HostId) (r : Report) (i : Index) :
    (s.notify h r).freeEntry i = (s.setEntry i { s.entry i with use := .free }).notify h r := by
  simp only [State.freeEntry, State.entry_notify, State.notify_setEntry]

theorem ClaimState.staged_iff (st : ClaimState) :
    st.staged = true ↔ st = .probing ∨ st = .probed ∨ st = .conflicted := by
  cases st <;> simp [ClaimState.staged]

/-- Settles O29: each expiry by what its function finds in the entry. -/
theorem stageAndOfferExpiries : Obligations.StageAndOfferExpiries := by
  unfold Obligations.StageAndOfferExpiries
  intro s i runs
  have probe : exec (.probeWindowExpiry i) s = .next (probeWindowExpired i s) := running_of_runs runs _
  have hold : exec (.stageHoldExpiry i) s = .next (stageHoldExpired i s) := running_of_runs runs _
  have offer : exec (.offerExpiry i) s = .next (offerExpired i s) := running_of_runs runs _
  rw [probe, hold, offer]
  refine ⟨fun c hu => ?_, fun hc => ?_⟩
  · have found := State.stageExpired_of_unicast hu
    refine ⟨fun hs ht => congrArg _ ?_, fun hs ht => congrArg _ ?_, fun none => congrArg _ ?_,
      fun none => congrArg _ ?_, fun o ho => ⟨fun hr => congrArg _ ?_, fun hr => congrArg _ ?_⟩,
      fun ho => congrArg _ ?_⟩
    · simp only [probeWindowExpired, found, hs, ht]
      rfl
    · have staged : [ClaimState.probed, .conflicted].contains c.state = true := by rcases hs with e | e <;> simp [e]
      simp only [stageHoldExpired, found, staged, ht, and_self, if_true, State.notify_freeEntry]
      rfl
    · have absent : ¬ ([ClaimState.probing].contains c.state = true ∧ c.stageTimer = some 0) := by simpa using by tauto
      simp only [probeWindowExpired, found, absent, if_false]
    · have absent : ¬ ([ClaimState.probed, .conflicted].contains c.state = true ∧ c.stageTimer = some 0) := by
        rcases none with bound | probing | running
        · rintro ⟨e, -⟩
          simp [(ClaimState.staged_iff _).2 (.inr (by simpa using e))] at bound
        · simp [probing]
        · simp [running]
      simp only [stageHoldExpired, found, absent, if_false]
    · simp only [offerExpired, Entry.claim?, hu, ho, hr, if_true, State.setClaim, State.notifyOffer_setEntry]
      simp [State.notifyOffer, State.entryRef]
      rfl
    · simp only [offerExpired, Entry.claim?, hu, ho, hr, if_false]
    · simp only [offerExpired, Entry.claim?, hu, ho]
  · simp only [probeWindowExpired, stageHoldExpired, offerExpired, State.stageExpired_of_no_claim hc, hc, and_self]

/-- The end of a claim after a notice: the entry FREE, and the target of a pending offer told WITHDRAWN. -/
theorem State.endClaim_notify (s : State) (h : HostId) (r : Report) (i : Index) (c : Claim) :
    (s.notify h r).endClaim i c =
      match c.offer with
      | none => (s.setEntry i { s.entry i with use := .free }).notify h r
      | some o => ((s.setEntry i { s.entry i with use := .free }).notify h r).notify o.target
          (.offerResolved ⟨i, (s.entry i).generation⟩ .withdrawn c.owner (s.entry i).generation) := by
  have gen : ((s.notify h r).entry i).generation = (s.entry i).generation := by rw [State.entry_notify]
  cases ho : c.offer with
  | none => rw [State.endClaim_of_no_offer gen ho, State.notify_setEntry]
  | some o => rw [State.endClaim_of_offer gen ho, State.notify_setEntry]

theorem State.leaseReloads_iff (s : State) (c : Claim) :
    s.leaseReloads c = true ↔
      c.mode = .activity ∧
        (c.activitySeen = some true ∨ (s.host c.owner).reach = .asleep ∨ (s.host c.owner).reach = .waking ∨
          (s.host c.owner).reach = .wakeRest) := by
  simp only [State.leaseReloads, Bool.and_eq_true, decide_eq_true_eq, Bool.or_eq_true, beq_iff_eq]
  refine and_congr_right fun _ => or_congr_right ?_
  cases (s.host c.owner).reach <;> simp [Reach.vouched]

/-- Settles O30: the run-out by the three ends of R56 to R59, and the grace. -/
theorem leaseRunOutAndGraceExpiry : Obligations.LeaseRunOutAndGraceExpiry := by
  unfold Obligations.LeaseRunOutAndGraceExpiry
  intro s i c runs hu law ref freed withdrawn vouched
  have lease : exec (.leaseRunOut i) s = .next (leaseRanOut i s) := running_of_runs runs _
  have grace : exec (.graceExpiry i) s = .next (graceExpired i s) := running_of_runs runs _
  have ends (r : Report) : (s.notify c.owner r).endClaim i c = withdrawn (freed.notify c.owner r) :=
    s.endClaim_notify c.owner r i c
  have reloads : s.leaseReloads c = true ↔ vouched := s.leaseReloads_iff c
  rw [lease, grace]
  refine ⟨fun hs hl => ⟨fun yes => congrArg _ ?_, fun no hg => congrArg _ ?_, fun no hg => congrArg _ ?_⟩,
    fun hs hg => congrArg _ ?_, fun none => congrArg _ ?_, fun none => congrArg _ ?_⟩
  · have full : c.startLease = { c with leaseRemaining := c.reload, activitySeen := some false } := by
      have stage := eq_none_of_present law.stageTimer_present (by rw [hs]; rfl)
      have grace := eq_none_of_present law.graceRemaining_present (by rw [hs]; rfl)
      have mode : c.mode = .activity := yes.1
      simp only [Claim.startLease, mode, if_true, ← hs, stage, grace]
    simp only [leaseRanOut, Entry.claim?, hu, hs, hl, and_self, if_true, reloads.2 yes, full]
    rfl
  · simp only [leaseRanOut, Entry.claim?, hu, hs, hl, and_self, if_true, mt reloads.1 no, hg, if_false]
    rfl
  · simp only [leaseRanOut, Entry.claim?, hu, hs, hl, and_self, if_true, mt reloads.1 no, hg, ends]
    rfl
  · simp only [graceExpired, Entry.claim?, hu, hs, hg, and_self, if_true, ends]
    rfl
  · have absent : ¬ (c.state = .live ∧ c.leaseRemaining = some 0) := by tauto
    simp only [leaseRanOut, Entry.claim?, hu, absent, if_false]
  · have absent : ¬ (c.state = .lapsing ∧ c.graceRemaining = some 0) := by tauto
    simp only [graceExpired, Entry.claim?, hu, absent, if_false]

end Sys2Proof.Machine
end

section
/-! LOOKUP and LIST_HELD (R17, R19 to R21, section 11.6). -/

namespace Sys2Proof.Machine

/-- The presence bits of a claim as a number: address and owner, and one bit for each field that may be absent. -/
theorem presenceBits_of_claim (reload lease seen grace stage offer collisions : Bool) :
    presenceBits [(0, true), (1, true), (3, reload), (4, lease), (5, seen), (6, grace), (7, stage), (8, offer),
        (9, collisions)] =
      BitVec.ofNat 16
        (3 + (if reload then 2 ^ 3 else 0) + (if lease then 2 ^ 4 else 0) + (if seen then 2 ^ 5 else 0) +
          (if grace then 2 ^ 6 else 0) + (if stage then 2 ^ 7 else 0) + (if offer then 2 ^ 8 else 0) +
          (if collisions then 2 ^ 9 else 0)) := by
  revert reload lease seen grace stage offer collisions
  decide

theorem membersByte_eq (m : PerHost Bool) :
    membersByte m =
      byte ((if m.get .h0 then 1 else 0) + (if m.get .h1 then 2 else 0) + (if m.get .h2 then 4 else 0) +
        (if m.get .h3 then 8 else 0)) := by
  obtain ⟨m0, m1, m2, m3⟩ := m
  cases m0 <;> cases m1 <;> cases m2 <;> cases m3 <;> rfl

theorem entryImage_of_free {i : Index} {e : Entry} (hu : e.use = .free) :
    entryImage i e =
      [byte i.val, 0] ++ word16Bytes e.generation ++ word16Bytes 0 ++
        [0, 0, 0, 0, 0, 0, 0, 0xFF, 0, 0, 0, 0, 0, 0, 0, 0, 0, 0, 0xFF, 0, 0, 0, 0, 0, 0] := by
  simp only [entryImage, Entry.stateCode, hu]
  rfl

theorem State.ownedBy_eq (s : State) (h : HostId) (i : Index) :
    s.ownedBy h i = (s.entry i).claim?.any (fun c => c.owner = h) := by
  simp only [State.ownedBy, Entry.claim?]
  cases (s.entry i).use <;> rfl

/-- The holdings are the UNICAST entries that the host owns (R17). -/
theorem State.holdings_eq (s : State) (h : HostId) :
    s.holdings h = ((List.finRange 64).filter (fun i => (s.entry i).claim?.any (fun c => c.owner = h))).length := by
  rw [State.holdings, List.countP_eq_length_filter, funext (s.ownedBy_eq h)]
  rfl

theorem byte_boolCode (b : Bool) : byte (boolCode b) = if b then 1 else 0 := by cases b <;> rfl

/-- A LOOKUP by index answers with the image of the entry there (R19). -/
theorem lookupRequest_index {s : State} {h : HostId} (awake : s.asleep h = false) (i : Index) (rest : List Byte) :
    lookupRequest h (0 :: byte i.val :: rest) s = accepted s (entryImage i (s.entry i)) := by
  simp [lookupRequest, awake]

/-- Settles O28: LOOKUP by its selector, the three kinds of image and relation, and the items of LIST_HELD. -/
theorem tableReads : Obligations.TableReads := by
  unfold Obligations.TableReads
  intro s h tag rest len ready law
  have awake := ready.not_asleep
  have seven (sel k : Byte) : Command.lookup.admitsLength (sel :: k :: rest).length = true := by simp [len]; rfl
  refine ⟨fun k hk => ?_, fun i => ?_, fun sel k hsel => ?_, fun a => ⟨fun unheld => ?_, fun i ha => ?_⟩,
    ⟨s.holdings_eq h, fun i => ⟨fun hu => ⟨?_, entryImage_of_free hu⟩, fun g hu => ⟨?_, ?_, ?_⟩,
      fun c hu => ⟨?_, fun other => ⟨?_, ?_⟩, ?_⟩⟩⟩, by decide, ?_⟩
  · refine ready.heard.exec_refused .lookup tag (seven 0 k) nofun (st := .badValue) ?_
    simp [serve, lookupRequest, awake, indexOf_none.2 hk]
  · exact ready.heard.exec_accepted .lookup tag (seven 0 _) nofun (lookupRequest_index awake i rest)
  · have neither : sel ≠ 0 ∧ sel ≠ 1 := ⟨by rintro rfl; simp at hsel, by rintro rfl; simp at hsel⟩
    refine ready.heard.exec_refused .lookup tag (seven sel k) nofun (st := .badValue) ?_
    simp only [serve, lookupRequest, awake, byteAt_zero, neither.1, neither.2, Bool.false_eq_true, if_false]
  · refine ready.heard.exec_refused .lookup tag rfl nofun (st := .noEntry) ?_
    simp [serve, lookupRequest, awake, State.holder_none.2 unheld]
  · refine ready.heard.exec_accepted .lookup tag rfl nofun ?_
    simp [serve, lookupRequest, awake, (State.holder_some law).2 ha]
  · simp only [State.relation, hu]
  · intro hm
    exact ⟨by simp [State.relation, hu, hm], rfl⟩
  · intro hm
    simp [State.relation, hu, hm]
  · have bits : presenceBits [(0, true), (2, true)] = 0x0005 := by decide
    simp only [entryImage, Entry.stateCode, hu, membersByte_eq, bits]
    rfl
  · intro own
    exact ⟨by simp [State.relation, hu, own], rfl⟩
  · intro o ho ht
    exact ⟨by simp [State.relation, hu, other, ho, ht], rfl⟩
  · intro away
    cases ho : c.offer with
    | none => simp [State.relation, hu, other, ho]
    | some o => simp [State.relation, hu, other, ho, away o ho]
  · have seen : byte (boolCode (c.activitySeen.getD false)) = if c.activitySeen = some true then 1 else 0 := by
      rcases c.activitySeen with _ | _ | _ <;> rfl
    simp only [entryImage, Entry.stateCode, hu, presenceBits_of_claim, seen]
    cases c.offer with
    | none => rfl
    | some o => rfl
  · refine ready.heard.exec_accepted .listHeld tag rfl nofun ?_
    have items : ∀ i, s.heldItem h i =
        match s.relation h i with
        | none => []
        | some r => byte i.val :: word16Bytes (s.entry i).generation ++ [byte (s.entry i).stateCode, byte r.code] := by
      intro i
      simp only [State.heldItem]
      cases s.relation h i <;> simp [State.entryPayload]
    simp only [serve, listHeldRequest, awake, funext items]
    rfl

end Sys2Proof.Machine
end

section
/-! References of a record, and the store's bytes (R65, R66, R69, R71). -/

namespace Sys2Proof.Machine

theorem State.takeRef_of_record {s : State} {r : Handle} {rec : FrameRecord} (hr : s.record r = some rec) :
    s.takeRef r = s.setRecord r (some { rec with refs := rec.refs + 1 }) := by
  simp only [State.takeRef, hr]

theorem State.takeRef_of_free {s : State} {r : Handle} (hr : s.record r = none) : s.takeRef r = s := by
  simp only [State.takeRef, hr]

theorem State.dropRef_of_many {s : State} {r : Handle} {rec : FrameRecord} (hr : s.record r = some rec)
    (many : 2 ≤ rec.refs) : s.dropRef r = s.setRecord r (some { rec with refs := rec.refs - 1 }) := by
  simp only [State.dropRef, hr, Nat.not_le.2 (Nat.lt_of_succ_le many), if_false]

theorem State.dropRef_of_last {s : State} {r : Handle} {rec : FrameRecord} (hr : s.record r = some rec)
    (last : rec.refs ≤ 1) : s.dropRef r = s.freeRecord r rec.chain := by
  simp only [State.dropRef, hr, last, if_true]

theorem State.dropRef_of_free {s : State} {r : Handle} (hr : s.record r = none) : s.dropRef r = s := by
  simp only [State.dropRef, hr]

/-- Settles O32: the two ends of `dropRef`. -/
theorem referencesAreCountedAndTheLastFrees : Obligations.ReferencesAreCountedAndTheLastFrees := by
  unfold Obligations.ReferencesAreCountedAndTheLastFrees
  exact fun s r rec hr => ⟨State.takeRef_of_record hr, State.dropRef_of_many hr,
    fun last => State.dropRef_of_last hr last.le⟩

/-! ### A frame written into its chain -/

theorem cellAddress_inj {c d : CellId} {j k : Nat} (hj : j < 128) (hk : k < 128)
    (e : cellAddress c j = cellAddress d k) : c = d ∧ j = k := by
  simp only [cellAddress, Config.cellBytes] at e
  exact ⟨Fin.ext (by omega), by omega⟩

theorem writeChainByte_of_cell {m : List Host.Cell} {chain : List CellId} {k : Nat} {c : CellId}
    (hc : chain[k / 128]? = some c) (b : Byte) :
    writeChainByte m chain k b = storeWrite m (cellAddress c (k % 128)) b := by
  simp only [writeChainByte, Config.cellBytes, hc]

theorem chainByte_of_cell {m : List Host.Cell} {chain : List CellId} {k : Nat} {c : CellId}
    (hc : chain[k / 128]? = some c) : chainByte m chain k = storeRead m (cellAddress c (k % 128)) := by
  simp only [chainByte, Config.cellBytes, hc]

/-- A stored byte written reads back, and every other byte of the chain is as before, its cells being distinct. -/
theorem chainByte_writeChainByte {m : List Host.Cell} (wf : storeWf m) {chain : List CellId} (nodup : chain.Nodup)
    {k : Nat} (hk : k < 128 * chain.length) (b : Byte) (j : Nat) :
    chainByte (writeChainByte m chain k b) chain j = if j = k then b else chainByte m chain j := by
  have hc : chain[k / 128]? = some chain[k / 128] := List.getElem?_eq_getElem (by omega)
  rw [writeChainByte_of_cell hc]
  cases hd : chain[j / 128]? with
  | none =>
    have beyond : chain.length ≤ j / 128 := List.getElem?_eq_none_iff.1 hd
    simp only [chainByte, Config.cellBytes, hd]
    rw [if_neg (by omega)]
  | some d =>
    rw [chainByte_of_cell hd, chainByte_of_cell hd, storeRead_storeWrite wf.1]
    by_cases hjk : j = k
    · subst hjk
      rw [hc] at hd
      simp [Option.some.inj hd]
    · rw [if_neg hjk, if_neg]
      intro same
      obtain ⟨cells, offset⟩ := cellAddress_inj (Nat.mod_lt _ (by decide)) (Nat.mod_lt _ (by decide)) same
      obtain ⟨hlt, rfl⟩ := List.getElem?_eq_some_iff.1 hd
      have place := (List.Nodup.getElem_inj_iff nodup).1 cells
      omega

/-- The bytes written from a place on read back, and those before it are as before. -/
theorem chainByte_writeChain {m : List Host.Cell} (wf : storeWf m) {chain : List CellId} (nodup : chain.Nodup)
    (bs : List Byte) (k : Nat) (hk : k + bs.length ≤ 128 * chain.length) (j : Nat) :
    chainByte (writeChain m chain k bs) chain j =
      if k ≤ j ∧ j < k + bs.length then byteAt bs (j - k) else chainByte m chain j := by
  induction bs generalizing m k with
  | nil =>
    have never : ¬ (k ≤ j ∧ j < k + ([] : List Byte).length) := by simp
    rw [if_neg never]
    rfl
  | cons b bs ih =>
    rw [List.length_cons] at hk
    rw [writeChain, ih (storeWf_writeChainByte wf chain k b) (k + 1) (by omega),
      chainByte_writeChainByte wf nodup (by omega), List.length_cons]
    by_cases hjk : j = k
    · subst hjk
      simp
    · by_cases hin : k + 1 ≤ j ∧ j < k + 1 + bs.length
      · rw [if_pos hin, if_pos (by omega), show j - k = j - (k + 1) + 1 by omega, byteAt_succ]
      · rw [if_neg hin, if_neg hjk, if_neg (by omega)]

theorem chainBytes_writeChain {m : List Host.Cell} (wf : storeWf m) {chain : List CellId} (nodup : chain.Nodup)
    {frame : List Byte} (fits : frame.length ≤ 128 * chain.length) :
    chainBytes (writeChain m chain 0 frame) chain frame.length = frame := by
  refine List.ext_getElem (by simp [chainBytes]) fun j hj hj' => ?_
  simp only [chainBytes, List.getElem_map, List.getElem_range]
  rw [chainByte_writeChain wf nodup frame 0 (by omega), if_pos (by omega)]
  simp [byteAt, hj']

/-- A frame's bytes go to no cell but those of its chain. -/
theorem storeRead_writeChain_of_not_mem {m : List Host.Cell} (wf : storeWf m) {chain : List CellId} {c : CellId}
    (hc : c ∉ chain) {j : Nat} (hj : j < 128) (bs : List Byte) (k : Nat) :
    storeRead (writeChain m chain k bs) (cellAddress c j) = storeRead m (cellAddress c j) := by
  induction bs generalizing m k with
  | nil => rfl
  | cons b bs ih =>
    rw [writeChain, ih (storeWf_writeChainByte wf chain k b)]
    cases hd : chain[k / 128]? with
    | none => simp only [writeChainByte, Config.cellBytes, hd]
    | some d =>
      rw [writeChainByte_of_cell hd, storeRead_storeWrite wf.1, if_neg]
      intro same
      obtain ⟨rfl, -⟩ := cellAddress_inj hj (Nat.mod_lt _ (by decide)) same
      exact hc (List.mem_of_getElem? hd)

/-- Settles O33: the bytes of the chain, those of every other cell, and the canonical form. -/
theorem storedFrameReadsBack : Obligations.StoredFrameReadsBack := by
  unfold Obligations.StoredFrameReadsBack
  exact fun store chain frame wf nodup fits => ⟨chainBytes_writeChain wf nodup fits,
    fun c k hc hk => storeRead_writeChain_of_not_mem wf hc hk frame 0, storeWf_writeChain wf chain 0 frame⟩

end Sys2Proof.Machine
end

section
/-! Reads of the pool, the line, the queues and the configuration (R80, R103, R114, R159). -/

namespace Sys2Proof.Machine

theorem byte_receiverCode (l : Line) :
    byte l.receiverCode =
      match l.reception.map (·.mode) with
      | none => (0 : Byte)
      | some (ReceptionMode.storing _) => 1
      | some ReceptionMode.ignoring => 2 := by
  rcases hr : l.reception with _ | ⟨_ | _, _, _, _, _⟩ <;> simp only [Line.receiverCode, hr] <;> rfl

/-- The policy, the default host and whether it is attached, as LINE_STATUS ends (R103). -/
theorem State.unknownPolicy_bytes (s : State) (u : UnknownPolicy) :
    unknownPolicyBytes u ++ [byte (boolCode (u.host.any s.attached))] =
      match u with
      | .discard => ([0, 0xFF, 0] : List Byte)
      | .defaultHost d => [1, byte d.toNat, if (s.host d).reach = .detached then 0 else 1] := by
  cases u with
  | discard => rfl
  | defaultHost d =>
    simp only [unknownPolicyBytes, UnknownPolicy.host, Option.any_some, byte_boolCode]
    by_cases hd : (s.host d).reach = .detached
    · simp [State.attached_eq_false.2 hd, hd]
    · simp [(HostCtx.attached_iff (s.host d)).2 hd, State.attached, hd]

theorem byte_voteCode (v : Option Vote) :
    byte (voteCode v) =
      match v with
      | none => 0
      | some .outstanding => 1
      | some .endorsed => 2 := by
  rcases v with _ | _ | _ <;> rfl

/-- Settles O34: each read by its function, its fields one by one. -/
theorem statusReadsOfAnAwakeHost : Obligations.StatusReadsOfAnAwakeHost := by
  unfold Obligations.StatusReadsOfAnAwakeHost
  intro s h tag ready
  have awake := ready.not_asleep
  refine ⟨ready.heard.exec_accepted .poolStatus tag rfl nofun ?_,
      ready.heard.exec_accepted .lineStatus tag rfl nofun ?_,
    ready.heard.exec_accepted .queueStatus tag rfl nofun ?_, ready.heard.exec_accepted .readConfig tag rfl nofun ?_⟩
  · simp only [serve, poolStatusRequest, awake]
    rfl
  · have changed : byte (boolCode s.line.lastChange.isSome) = if s.line.lastChange = none then 0 else 1 := by
      cases s.line.lastChange <;> rfl
    have sends : byte (boolCode s.sending) = if s.arbiter.path = none then 0 else 1 := by
      unfold State.sending
      cases s.arbiter.path <;> rfl
    simp only [serve, lineStatusRequest, awake, List.append_assoc, State.unknownPolicy_bytes, byte_receiverCode,
        changed,
      sends]
    simp only [byte_boolCode]
    rfl
  · have reach : byte (s.host h).reach.code = if (s.host h).reach = .awake then 1 else 2 := by
      rcases ready.awake with e | e <;> rw [e] <;> rfl
    have readiness : byte (boolCode (s.host h).ready) = if (s.host h).ready = true then 1 else 0 := byte_boolCode _
    simp only [serve, queueStatusRequest, awake, reach, readiness, HostCtx.ready_iff, byte_boolCode]
    rfl
  · simp only [serve, readConfigRequest, awake, accordBytes]
    cases s.accord.proposal with
    | none => rfl
    | some q =>
      simp only [proposalBytes, byte_voteCode, List.append_assoc, List.cons_append]
      rfl

end Sys2Proof.Machine
end

section
/-! READ_FRAME and ACK_FRAME (R111, R112). -/

namespace Sys2Proof.Machine

theorem byte_originCode (o : Origin) :
    byte o.code =
      match o with
      | .line => 4
      | .host k => byte k.toNat := by
  cases o <;> rfl

theorem byte_classCode (cls : FrameClass) :
    byte cls.code =
      match cls with
      | .unicastMatch => 0
      | .groupMatch => 1
      | .broadcast => 2
      | .default => 3
      | .localSwitch => 4 := by
  cases cls <;> rfl

/-- An entry named, or 0xFF and generation 0 (R188, R189). -/
theorem refBytes_eq (r : Option EntryRef) :
    refBytes r =
      match r with
      | none => ([0xFF, 0, 0] : List Byte)
      | some e => byte e.index.val :: word16Bytes e.generation := by
  cases r <;> rfl

theorem State.frameBytes_of_record {s : State} {r : Handle} {rec : FrameRecord} (hr : s.record r = some rec) :
    s.frameBytes r = chainBytes s.pool.store rec.chain (rec.length.getD 0) := by
  simp only [State.frameBytes, hr]

theorem readFrameRequest_of_head {s : State} {h : HostId} (awake : s.asleep h = false) {q : RxPosition}
    {rest : List RxPosition} (hq : (s.host h).rxQueue = q :: rest) {rec : FrameRecord}
    (hr : s.record q.handle = some rec) (p : List Byte) :
    readFrameRequest h p s =
      accepted s
        (descriptorBytes rec q (s.host h).rxQueue.length (s.host h).holdList.length ++
          chainBytes s.pool.store rec.chain (rec.length.getD 0)) := by
  simp only [readFrameRequest, awake, hq, hr, State.frameBytes_of_record hr]
  rfl

/-- A host's context after the head of its receive queue is acknowledged (R112, R115). -/
theorem HostCtx.acknowledge_of_head {c : HostCtx} {q : RxPosition} {rest : List RxPosition} (hq : c.rxQueue = q :: rest)
    (cells : Nat) :
    c.acknowledge cells =
      { c with
        rxQueue := rest ++ (c.holdList.take 1).map HoldPosition.drained
        holdList := c.holdList.drop 1
        charge := c.charge - cells
        dozeTimer := if rest ++ (c.holdList.take 1).map HoldPosition.drained = [] then none else some c.params.dozeDelay
        delayReached := false } := by
  simp only [HostCtx.acknowledge, HostCtx.drain, hq, List.tail_cons, List.isEmpty_iff]
  split <;> rfl

theorem ackFrameRequest_of_head {s : State} {h : HostId} (awake : s.asleep h = false) {q : RxPosition}
    {rest : List RxPosition} (hq : (s.host h).rxQueue = q :: rest) :
    ackFrameRequest h (word16Bytes (BitVec.ofNat 16 q.handle.val)) s =
      accepted ((s.setHost h ((s.host h).acknowledge (s.cellCount q.handle))).dropRef q.handle)
        [byte ((s.host h).acknowledge (s.cellCount q.handle)).rxQueue.length,
          byte ((s.host h).acknowledge (s.cellCount q.handle)).holdList.length,
          byte (boolCode (!(s.host h).holdList.isEmpty))] := by
  have handle : handleOf (BitVec.ofNat 16 q.handle.val) = some q.handle := by
    have small := q.handle.isLt
    unfold Config.recordCount at small
    rw [handleOf_some, BitVec.toNat_ofNat]
    omega
  simp [ackFrameRequest, awake, handle, hq]

/-- Settles O35: READ_FRAME by the head's record, ACK_FRAME by its handle. -/
theorem readAndAcknowledgeTheHead : Obligations.ReadAndAcknowledgeTheHead := by
  unfold Obligations.ReadAndAcknowledgeTheHead
  intro s h tag handle ready c
  have awake := ready.not_asleep
  have deny (st : Status) (e : ackFrameRequest h (word16Bytes handle) s = refused s st) :=
    ready.heard.exec_refused .ackFrame tag rfl nofun e
  refine ⟨fun hq => ready.heard.exec_refused .readFrame tag rfl nofun (st := .queueEmpty) ?_,
    fun hh => deny .badValue ?_, fun hh hq => deny .queueEmpty ?_, fun q rest hq =>
    ⟨fun rec n cls hr hn hc => ready.heard.exec_accepted .readFrame tag rfl nofun ?_,
      fun rec hr => ready.heard.exec_accepted .readFrame tag rfl nofun (readFrameRequest_of_head awake hq hr []),
      fun hh other => deny .notHead ?_, fun same => ?_⟩⟩
  · simp only [serve, readFrameRequest, awake, show (s.host h).rxQueue = [] from hq]
    rfl
  · simp [ackFrameRequest, awake, handleOf_none.2 hh]
  · obtain ⟨r, hr⟩ := Option.ne_none_iff_exists'.1 (mt handleOf_none.1 (Nat.not_lt.2 hh))
    simp [ackFrameRequest, awake, hr, show (s.host h).rxQueue = [] from hq]
  · refine (readFrameRequest_of_head awake hq hr []).trans ?_
    simp only [descriptorBytes, hn, hc, refBytes_eq, byte_originCode, byte_boolCode]
    rw [show zeroByte (Option.map FrameClass.code (some cls)) = byte cls.code from rfl, byte_classCode]
    rfl
  · obtain ⟨r, hr⟩ := Option.ne_none_iff_exists'.1 (mt handleOf_none.1 (Nat.not_lt.2 hh))
    have differs : q.handle ≠ r := fun e => other (by rw [e]; exact handleOf_some.1 hr)
    simp [ackFrameRequest, awake, hr, show (s.host h).rxQueue = q :: rest from hq, differs]
  · obtain rfl : handle = BitVec.ofNat 16 q.handle.val := by rw [← same]; simp
    refine ready.heard.exec_accepted .ackFrame tag rfl nofun ((ackFrameRequest_of_head awake hq).trans ?_)
    have drains : byte (boolCode (!(s.host h).holdList.isEmpty)) = if c.holdList = [] then 0 else 1 := by
      change byte (boolCode (!c.holdList.isEmpty)) = _
      rw [byte_boolCode]
      cases c.holdList <;> rfl
    have left : (c.holdList.drop 1).length = c.holdList.length - 1 := by simp
    rw [HostCtx.acknowledge_of_head hq, drains, ← left]
    rfl

end Sys2Proof.Machine
end

section
/-! DOZE, SLEEP, SET_HOST_PARAMS and RESUME, and a host's timers (chapter 7, R115). -/

namespace Sys2Proof.Machine

theorem sleepDepthOf_of_le {b : Byte} (hb : b.toNat ≤ 1) : sleepDepthOf b = some (if b = 0 then .light else .deep) := by
  obtain rfl | rfl : b = 0 ∨ b = 1 := by bv_omega
  · rfl
  · rfl

theorem groupAsleepOf_of_le {b : Byte} (hb : b.toNat ≤ 1) :
    groupAsleepOf b = some (if b = 0 then .hold else .drop) := by
  obtain rfl | rfl : b = 0 ∨ b = 1 := by bv_omega
  · rfl
  · rfl

theorem boolOf_of_le {b : Byte} (hb : b.toNat ≤ 1) : boolOf b = some (b == 1) := by
  obtain rfl | rfl : b = 0 ∨ b = 1 := by bv_omega
  · rfl
  · rfl

/-- The seven values, each in its range (R139). -/
theorem hostParamsOf_of_ranges {threshold delay light deep attempts group full : Byte}
    (h0 : threshold ≠ 0) (h0' : threshold.toNat ≤ 32) (h1 : delay ≠ 0) (h2 : light ≠ 0) (h3 : deep ≠ 0)
    (h4 : attempts ≠ 0) (h4' : attempts.toNat ≤ 4) (h5 : group.toNat ≤ 1) (h6 : full.toNat ≤ 1) :
    hostParamsOf [threshold, delay, light, deep, attempts, group, full] =
      some ⟨threshold.toNat, delay.toNat, light.toNat, deep.toNat, attempts.toNat, if group = 0 then .hold else .drop,
        full == 1⟩ := by
  have pos {b : Byte} (hb : b ≠ 0) : 1 ≤ b.toNat := by bv_omega
  have top (b : Byte) : b.toNat ≤ 255 := by have := b.isLt; omega
  simp only [hostParamsOf, byteAt_zero, byteAt_succ, rangeOf_some.2 ⟨rfl, pos h0, h0'⟩, rangeOf_some.2 ⟨rfl, pos h1,
      top _⟩,
    rangeOf_some.2 ⟨rfl, pos h2, top _⟩, rangeOf_some.2 ⟨rfl, pos h3, top _⟩, rangeOf_some.2 ⟨rfl, pos h4, h4'⟩,
    groupAsleepOf_of_le h5, boolOf_of_le h6]
  rfl

theorem hostParamsBytes_of_ranges {threshold delay light deep attempts group full : Byte} (h5 : group.toNat ≤ 1)
    (h6 : full.toNat ≤ 1) :
    hostParamsBytes ⟨threshold.toNat, delay.toNat, light.toNat, deep.toNat, attempts.toNat,
        if group = 0 then .hold else .drop, full == 1⟩ =
      [threshold, delay, light, deep, attempts, group, full] := by
  obtain rfl | rfl : group = 0 ∨ group = 1 := by bv_omega
  all_goals obtain rfl | rfl : full = 0 ∨ full = 1 := by bv_omega
  all_goals
    simp only [hostParamsBytes, byte_toNat_self]
    rfl

/-- A value out of its range spoils them all (R139). -/
theorem hostParamsOf_none_of {threshold delay light deep attempts group full : Byte}
    (bad : threshold = 0 ∨ 32 < threshold.toNat ∨ delay = 0 ∨ light = 0 ∨ deep = 0 ∨ attempts = 0 ∨ 4 < attempts.toNat ∨
      1 < group.toNat ∨ 1 < full.toNat) :
    hostParamsOf [threshold, delay, light, deep, attempts, group, full] = none := by
  rw [Option.eq_none_iff_forall_ne_some]
  intro q hq
  simp only [hostParamsOf, byteAt_zero, byteAt_succ, Option.bind_eq_bind, Option.bind_eq_some_iff, rangeOf_some] at hq
  obtain ⟨_, h0, _, h1, _, h2, _, h3, _, h4, _, h5, _, h6, -⟩ := hq
  have group_ok : ¬ 1 < group.toNat := fun e => by simp [groupAsleepOf_none.2 e] at h5
  have full_ok : ¬ 1 < full.toNat := fun e => by simp [boolOf_none.2 e] at h6
  have pos {b : Byte} (hb : 1 ≤ b.toNat) : b ≠ 0 := by rintro rfl; simp at hb
  rcases bad with e | e | e | e | e | e | e | e | e
  · exact pos (by omega) e
  · omega
  · exact pos (by omega) e
  · exact pos (by omega) e
  · exact pos (by omega) e
  · exact pos (by omega) e
  · omega
  · exact group_ok e
  · exact full_ok e

/-- Settles O37: DOZE, SLEEP by its depth, SET_HOST_PARAMS by the ranges. -/
theorem dozeSleepAndParameters : Obligations.DozeSleepAndParameters := by
  unfold Obligations.DozeSleepAndParameters
  intro s h tag ready
  have awake := ready.not_asleep
  refine ⟨ready.heard.exec_accepted .doze tag rfl nofun (by simp only [serve, dozeRequest, awake]; rfl),
    fun depth n => ⟨fun hd => ?_, fun hd => ?_⟩,
    fun threshold delay light deep attempts group full => ⟨fun bad => ?_, fun good => ?_⟩⟩
  · refine ready.heard.exec_refused .sleep tag rfl nofun (st := .badValue) ?_
    simp [serve, sleepRequest, awake, sleepDepthOf_none.2 hd]
  · have alarm : (if n.toNat = 0 then none else some n.toNat) = if n = 0 then none else some n.toNat := by
      by_cases hn : n = 0
      · simp [hn]
      · have : n.toNat ≠ 0 := by bv_omega
        rw [if_neg this, if_neg hn]
    refine ready.heard.exec_accepted .sleep tag rfl nofun
      (t := s.setHost h { s.host h with
        reach := .asleep
        depth := some (if depth = 0 then .light else .deep)
        wake := some ⟨none, none, none, 0, false, none, 0⟩
        alarm := if n = 0 then none else some n.toNat }) ?_
    simp only [serve, sleepRequest, awake, byteAt_zero, sleepDepthOf_of_le hd, word16At_succ, word16At_word16Bytes_self,
      HostCtx.goToSleep, alarm]
    rfl
  · refine ready.heard.exec_refused .setHostParams tag rfl nofun (st := .badValue) ?_
    simp [serve, setHostParamsRequest, awake, hostParamsOf_none_of bad]
  · simp only [not_or, Nat.not_lt] at good
    obtain ⟨h0, h0', h1, h2, h3, h4, h4', h5, h6⟩ := good
    refine ready.heard.exec_accepted .setHostParams tag rfl nofun ?_
    simp only [serve, setHostParamsRequest, awake, hostParamsOf_of_ranges h0 h0' h1 h2 h3 h4 h4' h5 h6,
      hostParamsBytes_of_ranges h5 h6]
    rfl

/-! ### RESUME -/

/-- The wake block's bytes (R138, section 11.7). -/
theorem wakeBlock_eq {x : HostCtx} {w : WakeRecord} (hw : x.wake = some w) :
    wakeBlock x =
      ([match x.reach with
        | .detached => 0
        | .awake => 1
        | .dozing => 2
        | .asleep => 3
        | .waking => 4
        | .wakeRest => 5
        | .stranded => 6,
        if x.depth = some .deep then 1 else 0] : List Byte) ++
      nat16Bytes (x.alarm.getD 0) ++
      [byte (x.attempt.getD 0),
        match x.attemptTimer, x.restTimer with
        | some n, _ => byte n
        | none, some n => byte n
        | none, none => 0,
        match w.cause with
        | none => 0xFF
        | some .self => 0
        | some .frame => 1
        | some .holdFull => 2
        | some .alarm => 3] ++
      (match w.entry with
        | none => ([0xFF, 0, 0] : List Byte)
        | some e => byte e.index.val :: word16Bytes e.generation) ++
      word16Bytes (w.startStamp.getD 0) ++
      [byte w.attemptsUsed, if w.stranded then 1 else 0,
        match w.heldAtResume with
        | none => 0xFF
        | some n => byte n] ++
      nat32Bytes w.dropped := by
  have reach : byte x.reach.code =
      match x.reach with
      | .detached => 0
      | .awake => 1
      | .dozing => 2
      | .asleep => 3
      | .waking => 4
      | .wakeRest => 5
      | .stranded => 6 := by cases x.reach <;> rfl
  have depth : zeroByte (x.depth.map SleepDepth.code) = if x.depth = some .deep then 1 else 0 := by
    rcases x.depth with _ | _ | _ <;> rfl
  have timer : zeroByte (x.attemptTimer <|> x.restTimer) =
      match x.attemptTimer, x.restTimer with
      | some n, _ => byte n
      | none, some n => byte n
      | none, none => 0 := by cases x.attemptTimer <;> cases x.restTimer <;> rfl
  have cause : markedByte (w.cause.map WakeCause.code) =
      match w.cause with
      | none => 0xFF
      | some .self => 0
      | some .frame => 1
      | some .holdFull => 2
      | some .alarm => 3 := by rcases w.cause with _ | _ | _ | _ | _ <;> rfl
  have held : markedByte w.heldAtResume =
      match w.heldAtResume with
      | none => 0xFF
      | some n => byte n := by cases w.heldAtResume <;> rfl
  simp only [wakeBlock, hw, Option.getD_some, wakeRecordBytes, reach, depth, timer, cause, held, byte_boolCode]
  cases w.entry <;> rfl

/-- The drain of a RESUME, field by field (R134). -/
theorem HostCtx.drainAll_eq (c : HostCtx) :
    c.drainAll =
      let n := min c.holdList.length (32 - c.rxQueue.length)
      { c with
        rxQueue := c.rxQueue ++ (c.holdList.take n).map HoldPosition.drained
        holdList := c.holdList.drop n
        dozeTimer := if c.rxQueue = [] ∧ 0 < n then some c.params.dozeDelay else c.dozeTimer
        delayReached := if c.rxQueue = [] ∧ 0 < n then false else c.delayReached } := by
  simp only [HostCtx.drainAll, List.isEmpty_iff]
  split <;> rfl

/-- Settles O38: RESUME by the reachability state; the drain by `drainAll_eq`. -/
theorem resumeMakesTheHostAwake : Obligations.ResumeMakesTheHostAwake := by
  unfold Obligations.ResumeMakesTheHostAwake
  intro s h tag heard c answer out
  have answers : out = answer (c.resume s.stamp) := heard.exec_accepted .resume tag rfl nofun rfl
  refine ⟨fun x w => wakeBlock_eq, fun hr => ?_, fun hr => ?_, fun w hw asleep => ?_⟩
  · rw [answers, HostCtx.resume, hr]
  · rw [answers, HostCtx.resume, hr]
  · intro n completed
    have wakes : c.resume s.stamp = c.wakeUp s.stamp := by
      have : c.reach.isAsleep = true := asleep
      cases hr : c.reach <;> simp_all [HostCtx.resume, Reach.isAsleep]
    have completes : w.complete c.reach s.stamp c.holdList.length = completed := by
      have : c.reach.isAsleep = true := asleep
      cases hr : c.reach <;> simp_all [Reach.isAsleep, WakeRecord.complete, completed]
      rfl
    rw [answers, wakes, HostCtx.wakeUp, HostCtx.drainAll_eq, hw, Option.map_some, completes]
    rfl

/-! ### The timers of a host -/

theorem HostCtx.attemptWindow_eq (c : HostCtx) :
    c.attemptWindow =
      match c.depth with
      | none => none
      | some .light => some c.params.lightWindow
      | some .deep => some c.params.deepWindow := by
  unfold HostCtx.attemptWindow
  rcases c.depth with _ | _ | _ <;> rfl

/-- Settles O39: each expiry by what its function asks of the host. -/
theorem hostTimerExpiries : Obligations.HostTimerExpiries := by
  unfold Obligations.HostTimerExpiries
  intro s h runs c put window
  have doze : exec (.dozeDelayExpiry h) s = .next (dozeDelayExpired h s) := running_of_runs runs _
  have alarm : exec (.alarmExpiry h) s = .next (alarmExpired h s) := running_of_runs runs _
  have attempt : exec (.attemptExpiry h) s = .next (attemptExpired h s) := running_of_runs runs _
  have rest : exec (.restExpiry h) s = .next (restExpired h s) := running_of_runs runs _
  have opens : c.attemptWindow = window := c.attemptWindow_eq
  rw [doze, alarm, attempt, rest]
  refine ⟨fun ht => congrArg _ (if_pos ht), fun ht => congrArg _ (if_neg ht), fun hr ht => congrArg _ ?_,
    fun none => congrArg _ (if_neg (by tauto)), fun k hr ht hk => ⟨fun more => congrArg _ ?_,
        fun last => congrArg _ ?_⟩,
    fun none => congrArg _ (if_neg (by tauto)), fun k hr ht hk => congrArg _ ?_,
    fun none => congrArg _ (if_neg (by tauto))⟩
  · refine (if_pos ⟨hr, ht⟩).trans ?_
    rw [← opens]
    rfl
  · refine (if_pos ⟨hr, ht⟩).trans (if_pos ?_)
    rw [show (s.host h).attempt = some k from hk]
    exact more
  · refine ((if_pos ⟨hr, ht⟩).trans (if_neg ?_)).trans ?_
    · rw [show (s.host h).attempt = some k from hk]
      exact Nat.not_lt.2 last
    · simp only [State.strand, HostCtx.strand, List.map_map]
      rfl
  · refine (if_pos ⟨hr, ht⟩).trans ?_
    rw [← opens, show (s.host h).attempt = some k from hk]
    rfl

end Sys2Proof.Machine
end

section
/-! The delivery procedure (R105 to R109). -/

namespace Sys2Proof.Machine

/-! ### The result of a call -/

/-- The governing action, by the class of the frame (R105). -/
theorem governingAction_eq (cls : FrameClass) (action : SleepAction) (p : HostParams) :
    governingAction cls action p =
      if cls = .unicastMatch ∨ cls = .localSwitch then action
      else if cls = .default then .hold
      else if p.groupAsleep = .hold then .hold else .drop := by
  cases cls <;> cases hg : p.groupAsleep <;> simp [governingAction, hg]

theorem HostCtx.holdPath_of_full {c : HostCtx} (full : 16 ≤ c.holdList.length) (quota cells : Nat) :
    c.holdPath quota cells = .dropHoldFull := if_pos full

theorem HostCtx.holdPath_of_quota {c : HostCtx} {quota cells : Nat} (room : c.holdList.length < 16)
    (exceeds : ¬ c.charge + cells ≤ quota) : c.holdPath quota cells = .dropQuota :=
  (if_neg (Nat.not_le.2 room)).trans (if_pos (Nat.not_le.1 exceeds))

theorem HostCtx.holdPath_of_fits {c : HostCtx} {quota cells : Nat} (room : c.holdList.length < 16)
    (fits : c.charge + cells ≤ quota) : c.holdPath quota cells = .held :=
  (if_neg (Nat.not_le.2 room)).trans (if_neg (Nat.not_lt.2 fits))

/-- A host awake with an empty hold list takes the frame into its receive queue, where there is room (R106). -/
theorem HostCtx.deliveryResult_of_awake {c : HostCtx} (awake : c.reach = .awake ∨ c.reach = .dozing)
    (empty : c.holdList = []) (quota cells : Nat) (gov : SleepAction) :
    c.deliveryResult quota cells gov =
      if 32 ≤ c.rxQueue.length then .dropQueueFull
      else if quota < c.charge + cells then .dropQuota
      else .delivered := by
  rcases awake with e | e <;> simp [HostCtx.deliveryResult, e, empty]

/-- A host awake with frames held, and one asleep whose governing action is not DROP, takes the hold path (R106). -/
theorem HostCtx.deliveryResult_of_hold {c : HostCtx} {gov : SleepAction}
    (hold : ((c.reach = .awake ∨ c.reach = .dozing) ∧ c.holdList ≠ []) ∨
      ((c.reach = .asleep ∨ c.reach = .waking ∨ c.reach = .wakeRest) ∧ gov ≠ .drop)) (quota cells : Nat) :
    c.deliveryResult quota cells gov = c.holdPath quota cells := by
  rcases hold with ⟨e | e, frames⟩ | ⟨e | e | e, keeps⟩ <;> simp_all [HostCtx.deliveryResult]

theorem HostCtx.deliveryResult_of_drop {c : HostCtx}
    (asleep : c.reach = .asleep ∨ c.reach = .waking ∨ c.reach = .wakeRest) (quota cells : Nat) :
    c.deliveryResult quota cells .drop = .dropAsleep := by
  rcases asleep with e | e | e <;> simp [HostCtx.deliveryResult, e]

theorem HostCtx.deliveryResult_of_stranded {c : HostCtx} (stranded : c.reach = .stranded) (quota cells : Nat)
    (gov : SleepAction) : c.deliveryResult quota cells gov = .dropStranded := by
  simp [HostCtx.deliveryResult, stranded]

/-! ### The context after a call -/

/-- A host that is not in ASLEEP begins no wake (R108). -/
theorem HostCtx.wakeOfCall_of_ne {c : HostCtx} (awake : c.reach ≠ .asleep) (gov : SleepAction) (r : DeliveryResult)
    (matched : Option EntryRef) : c.wakeOfCall gov r matched = none := if_neg awake

/-- The context once the result of a call has been settled and counted, before any wake. -/
def HostCtx.counted (c : HostCtx) (r : DeliveryResult) (h : Handle) (stamp : Word16) (cells : Nat) : HostCtx :=
  { c.settle r h stamp cells with counters := (c.settle r h stamp cells).counters.count r }

/-- A call that begins no wake. -/
theorem HostCtx.afterCall_of_no_wake {c : HostCtx} {quota cells : Nat} {cls : FrameClass} {matched : Option EntryRef}
    {action : SleepAction} {r : DeliveryResult}
    (result : c.deliveryResult quota cells (governingAction cls action c.params) = r)
    (wake : c.wakeOfCall (governingAction cls action c.params) r matched = none) (h : Handle) (stamp : Word16) :
    c.afterCall quota cells cls matched action h stamp = c.counted r h stamp cells := by
  simp only [HostCtx.afterCall, result, wake, HostCtx.counted]

/-- A call that begins a wake. -/
theorem HostCtx.afterCall_of_wake {c : HostCtx} {quota cells : Nat} {cls : FrameClass} {matched : Option EntryRef}
    {action : SleepAction} {r : DeliveryResult} {cause : WakeCause} {entry : Option EntryRef}
    (result : c.deliveryResult quota cells (governingAction cls action c.params) = r)
    (wake : c.wakeOfCall (governingAction cls action c.params) r matched = some (cause, entry)) (h : Handle)
    (stamp : Word16) :
    c.afterCall quota cells cls matched action h stamp = (c.counted r h stamp cells).beginWake cause entry stamp := by
  simp only [HostCtx.afterCall, result, wake, HostCtx.counted]

/-- A frame put into the receive queue. -/
theorem HostCtx.counted_delivered (c : HostCtx) (h : Handle) (stamp : Word16) (cells : Nat) :
    c.counted .delivered h stamp cells =
      { c with
        charge := c.charge + cells
        rxQueue := c.rxQueue ++ [⟨h, stamp, false⟩]
        dozeTimer := if c.rxQueue = [] then some c.params.dozeDelay else c.dozeTimer
        delayReached := if c.rxQueue = [] then false else c.delayReached
        counters := { c.counters with delivered := bump c.counters.delivered } } := by
  simp only [HostCtx.counted, HostCtx.settle, HostCtx.appendRx, List.isEmpty_iff]
  split <;> rfl

/-- A frame dropped, which counts in the wake cause record of a host that is asleep. -/
theorem HostCtx.counted_dropped {r : DeliveryResult} (dropped : r.placed = false) (c : HostCtx) (h : Handle)
    (stamp : Word16) (cells : Nat) :
    c.counted r h stamp cells =
      { c with
        counters := c.counters.count r
        wake := if c.reach.isAsleep then c.wake.map (fun w => { w with dropped := bump w.dropped }) else c.wake } := by
  cases r
  case delivered | held => exact absurd dropped (by decide)
  all_goals
    simp only [HostCtx.counted, HostCtx.settle]
    split <;> rfl

/-- The delivery procedure of an attached host, by the result of the call (R105). -/
theorem State.deliver_of_attached {s : State} {h : HostId} (there : (s.host h).reach ≠ .detached) {d : Delivery}
    {r : DeliveryResult}
    (result : (s.host h).deliveryResult (s.accord.config.cellQuota.get h) (s.cellCount d.handle)
      (governingAction d.cls d.action (s.host h).params) = r) :
    s.deliver h d =
      let t := s.setHost h ((s.host h).afterCall (s.accord.config.cellQuota.get h)
          (s.cellCount d.handle) d.cls d.matched
        d.action d.handle s.stamp)
      if r.placed then (t.takeRef d.handle, true) else (t, false) := by
  simp only [State.deliver, (HostCtx.attached_iff (s.host h)).2 there, State.attached, if_true, HostCtx.placesCall,
      result]

/-- Settles O36: the result of a call by the reachability state, the hold list and the charge, and the context after
each. -/
theorem deliveryByReachabilityState : Obligations.DeliveryByReachabilityState := by
  unfold Obligations.DeliveryByReachabilityState
  refine ⟨?_, fun s d => ⟨rfl, fun hs h => State.deliverAll_snoc s hs h d⟩⟩
  intro s h d there c n stamp fits gov put placed dropped held missed full quotaDrop woken out
  have governs : governingAction d.cls d.action c.params = gov := governingAction_eq ..
  have calls {r : DeliveryResult} (result : c.deliveryResult (s.accord.config.cellQuota.get h) n gov = r) :
      out = if r.placed then placed (c.afterCall _ n d.cls d.matched d.action d.handle stamp)
        else dropped (c.afterCall _ n d.cls d.matched d.action d.handle stamp) :=
    State.deliver_of_attached there (by rw [governs]; exact result)
  -- a call without a wake: the frame placed, or dropped and counted
  have quiet {r : DeliveryResult} (result : c.deliveryResult (s.accord.config.cellQuota.get h) n gov = r)
      (wake : c.wakeOfCall gov r d.matched = none) :
      out = if r.placed then placed (c.counted r d.handle stamp n) else dropped (c.counted r d.handle stamp n) := by
    have after := HostCtx.afterCall_of_no_wake (governs.symm ▸ result) (governs.symm ▸ wake) d.handle stamp
    rw [calls result, after]
  have rings {r : DeliveryResult} {cause : WakeCause} {entry : Option EntryRef}
      (result : c.deliveryResult (s.accord.config.cellQuota.get h) n gov = r)
      (wake : c.wakeOfCall gov r d.matched = some (cause, entry)) :
      out = if r.placed then placed (woken (c.counted r d.handle stamp n) cause entry)
        else dropped (woken (c.counted r d.handle stamp n) cause entry) := by
    have begins (x : HostCtx) : x.beginWake cause entry stamp = woken x cause entry := by
      simp only [HostCtx.beginWake, HostCtx.attemptWindow_eq]
      rfl
    have after := HostCtx.afterCall_of_wake (governs.symm ▸ result) (governs.symm ▸ wake) d.handle stamp
    rw [calls result, after, begins]
  have drops {r : DeliveryResult} (drop : r.placed = false) :
      c.counted r d.handle stamp n = missed (fun k => k.count r) := HostCtx.counted_dropped drop ..
  have holds : c.counted .held d.handle stamp n = held := rfl
  have exceeds (no : ¬ fits) : s.accord.config.cellQuota.get h < c.charge + n := Nat.not_le.1 no
  refine ⟨fun awake empty => ?_, fun hold => ?_, fun asleep hg => ?_, fun hr => ?_, fun hr hg => ?_, fun hr hg => ?_⟩
  · have result := HostCtx.deliveryResult_of_awake awake empty (s.accord.config.cellQuota.get h) n gov
    have up : c.reach ≠ .asleep := by rcases awake with e | e <;> exact fun a => nomatch e.symm.trans a
    refine ⟨fun hq => ?_, fun hq no => ?_, fun hq yes => ?_⟩
    · exact (quiet (r := .dropQueueFull) (result.trans (if_pos hq)) (HostCtx.wakeOfCall_of_ne up ..)).trans
        (congrArg dropped (drops rfl))
    · exact (quiet (r := .dropQuota) (result.trans ((if_neg (Nat.not_le.2 hq)).trans (if_pos (exceeds no))))
        (HostCtx.wakeOfCall_of_ne up ..)).trans (congrArg dropped (drops rfl))
    · exact (quiet (r := .delivered)
        (result.trans ((if_neg (Nat.not_le.2 hq)).trans (if_neg (Nat.not_lt.2 yes))))
        (HostCtx.wakeOfCall_of_ne up ..)).trans (congrArg placed (c.counted_delivered ..))
  · have result := HostCtx.deliveryResult_of_hold (c := c) (gov := gov)
      (hold.imp_right (And.imp_left .inr)) (s.accord.config.cellQuota.get h) n
    have up : c.reach ≠ .asleep := by
      rcases hold with ⟨e | e, -⟩ | ⟨e | e, -⟩ <;> exact fun a => nomatch e.symm.trans a
    refine ⟨fun hl => ?_, fun hl no => ?_, fun hl yes => ?_⟩
    · exact (quiet (result.trans (HostCtx.holdPath_of_full hl ..)) (HostCtx.wakeOfCall_of_ne up ..)).trans
        (congrArg dropped (drops rfl))
    · exact (quiet (result.trans (HostCtx.holdPath_of_quota hl no)) (HostCtx.wakeOfCall_of_ne up ..)).trans
        (congrArg dropped (drops rfl))
    · exact (quiet (result.trans (HostCtx.holdPath_of_fits hl yes)) (HostCtx.wakeOfCall_of_ne up ..)).trans
        (congrArg placed holds)
  · have silent : c.wakeOfCall gov .dropAsleep d.matched = none := by
      simp only [HostCtx.wakeOfCall, hg, ite_self]
    exact (quiet (by rw [hg]; exact HostCtx.deliveryResult_of_drop asleep ..) silent).trans
      (congrArg dropped (drops rfl))
  · exact (quiet (HostCtx.deliveryResult_of_stranded hr ..)
      (HostCtx.wakeOfCall_of_ne (fun a => nomatch hr.symm.trans a) ..)).trans (congrArg dropped (drops rfl))
  · have result := HostCtx.deliveryResult_of_hold (c := c) (gov := gov)
      (.inr ⟨.inl hr, by rw [hg]; nofun⟩) (s.accord.config.cellQuota.get h) n
    have wake (r : DeliveryResult) : c.wakeOfCall gov r d.matched =
        if r = .dropHoldFull ∧ c.params.holdFullWakes then some (.holdFull, none) else none := by
      simp only [HostCtx.wakeOfCall, hr, hg, if_true]
    refine ⟨fun hl => ?_, fun hl no => ?_, fun hl yes => ?_⟩
    · have stops := result.trans (HostCtx.holdPath_of_full hl ..)
      by_cases asks : c.params.holdFullWakes = true
      · rw [if_pos asks]
        exact (rings stops ((wake _).trans (if_pos ⟨rfl, asks⟩))).trans
          (congrArg (fun x => dropped (woken x .holdFull none)) (drops rfl))
      · rw [if_neg asks]
        exact (quiet stops ((wake _).trans (if_neg fun e => asks e.2))).trans (congrArg dropped (drops rfl))
    · exact (quiet (result.trans (HostCtx.holdPath_of_quota hl no)) ((wake _).trans (if_neg (by simp)))).trans
        (congrArg dropped (drops rfl))
    · exact (quiet (result.trans (HostCtx.holdPath_of_fits hl yes)) ((wake _).trans (if_neg (by simp)))).trans
        (congrArg placed holds)
  · have result := HostCtx.deliveryResult_of_hold (c := c) (gov := gov)
      (.inr ⟨.inl hr, by rw [hg]; nofun⟩) (s.accord.config.cellQuota.get h) n
    have wake (r : DeliveryResult) : c.wakeOfCall gov r d.matched = some (.frame, d.matched) := by
      simp only [HostCtx.wakeOfCall, hr, hg, if_true]
    refine ⟨fun hl => ?_, fun hl no => ?_, fun hl yes => ?_⟩
    · exact (rings (result.trans (HostCtx.holdPath_of_full hl ..)) (wake _)).trans
        (congrArg (fun x => dropped (woken x .frame d.matched)) (drops rfl))
    · exact (rings (result.trans (HostCtx.holdPath_of_quota hl no)) (wake _)).trans
        (congrArg (fun x => dropped (woken x .frame d.matched)) (drops rfl))
    · exact (rings (result.trans (HostCtx.holdPath_of_fits hl yes)) (wake _)).trans
        (congrArg (fun x => placed (woken x .frame d.matched)) holds)

end Sys2Proof.Machine
end

section
/-! The source observation, and the classification of a good line frame (R13, R26, R93 to R99). -/

namespace Sys2Proof.Machine

/-- Settles O45: the observation by the state of the claim that the source's address finds. -/
theorem sourceObservation : Obligations.SourceObservation := by
  unfold Obligations.SourceObservation
  refine fun s a law => ⟨fun unclaimed => ?_, fun i c hu hc => ?_⟩
  · simp only [State.observeSource, (State.claimAt_none law).2 unclaimed]
  · have found := (State.claimAt_some law).2 ⟨hu, hc⟩
    refine ⟨fun staged => ?_, fun conflicted => ?_, fun n bound hn => ?_⟩
    · rcases staged with hs | hs <;> simp only [State.observeSource, found, hs] <;> rfl
    · simp only [State.observeSource, found, conflicted]
    · rcases bound with hs | hs <;> simp only [State.observeSource, found, hs, hn, Option.getD_some] <;> rfl

/-! ### What the Classifier finds -/

theorem State.classifyLine_broadcast (s : State) :
    s.classifyLine broadcastAddress = .deliver .broadcast none .hold s.attachedHosts := if_pos rfl

theorem State.classifyLine_of_group {s : State} {dest : Address} (hb : dest ≠ broadcastAddress)
    (hg : isGroupAddress dest = true) {i : Index} {g : Group} (found : s.groupAt dest = some (i, g)) :
    s.classifyLine dest = .deliver .groupMatch (some i) .hold g.members.members := by
  simp only [State.classifyLine, hb, hg, found, if_false, if_true]

theorem State.classifyLine_of_no_group {s : State} {dest : Address} (hb : dest ≠ broadcastAddress)
    (hg : isGroupAddress dest = true) (lost : s.groupAt dest = none) : s.classifyLine dest = .groupUnmatched := by
  simp only [State.classifyLine, hb, hg, lost, if_false, if_true]

theorem ne_broadcast_of_unicast {dest : Address} (hg : isGroupAddress dest = false) : dest ≠ broadcastAddress := by
  rintro rfl
  exact absurd hg (by decide)

theorem State.classifyLine_of_claim {s : State} {dest : Address} (hg : isGroupAddress dest = false) {i : Index}
    {c : Claim} (found : s.boundAt dest = some (i, c)) :
    s.classifyLine dest = .deliver .unicastMatch (some i) c.action [c.owner] := by
  simp only [State.classifyLine, ne_broadcast_of_unicast hg, hg, found, Bool.false_eq_true, if_false]

theorem State.classifyLine_of_unknown {s : State} {dest : Address} (hg : isGroupAddress dest = false)
    (lost : s.boundAt dest = none) :
    s.classifyLine dest =
      match s.accord.config.unknown.host.filter s.attached with
      | some h => .deliver .default none .hold [h]
      | none => .unknownDiscarded := by
  simp only [State.classifyLine, ne_broadcast_of_unicast hg, hg, lost, Bool.false_eq_true, if_false]
  rcases s.accord.config.unknown with _ | h
  · rfl
  · by_cases ha : s.attached h = true <;> simp [UnknownPolicy.host, Option.filter, ha]

theorem State.defaultHost_of_attached {t : State} {k : HostId} (hk : t.accord.config.unknown = .defaultHost k)
    (there : t.attached k = true) : t.accord.config.unknown.host.filter t.attached = some k := by
  simp [hk, UnknownPolicy.host, Option.filter, there]

theorem State.no_defaultHost {t : State} (lost : t.accord.config.unknown = .discard ∨
      ∃ k : HostId, t.accord.config.unknown = .defaultHost k ∧ (t.host k).reach = .detached) :
    t.accord.config.unknown.host.filter t.attached = none := by
  obtain hk | ⟨k, hk, gone⟩ := lost
  · simp [hk, UnknownPolicy.host]
  · simp [hk, UnknownPolicy.host, Option.filter, State.attached_eq_false.2 gone]

/-! ### The match marked -/

@[simp] theorem State.entry_setClass (s : State) (r : Handle) (cls : FrameClass) (m : Option EntryRef) (i : Index) :
    (s.setClass r cls m).entry i = s.entry i := by simp [State.entry]

theorem State.setEntry_setClass (s : State) (r : Handle) (cls : FrameClass) (m : Option EntryRef) (i : Index)
    (e : Entry) :
    (s.setClass r cls m).setEntry i e = { s.setClass r cls m with table := s.table.set i e } := by
  simp only [State.setEntry, State.setClass_table]

theorem State.raiseHits_of_group {s : State} {i : Index} {g : Group} (hu : (s.entry i).use = .group g) :
    s.raiseHits i = s.setGroup i { g with hits := bump g.hits } := by
  simp only [State.raiseHits, hu]

theorem State.raiseHits_of_unicast {s : State} {i : Index} {c : Claim} (hu : (s.entry i).use = .unicast c) :
    s.raiseHits i = s.setClaim i { c with hits := bump c.hits } := by
  simp only [State.raiseHits, hu]

/-- The class set and the hit count raised, where the frame has targets and matches a group. -/
theorem State.markMatch_of_group {s : State} {i : Index} {g : Group} (hu : (s.entry i).use = .group g) (r : Handle)
    (cls : FrameClass) (targets : List HostId) :
    s.markMatch r cls (some i) targets =
      (if targets = [] then s else s.setClass r cls (some (s.entryRef i))).setEntry i
        { s.entry i with use := .group { g with hits := bump g.hits } } := by
  cases targets with
  | nil => simp only [State.markMatch, List.isEmpty_nil, if_true, State.raiseHits_of_group hu]; rfl
  | cons k ks =>
    have kept : ((s.setClass r cls (some (s.entryRef i))).entry i).use = .group g := by rw [State.entry_setClass, hu]
    simp only [State.markMatch, List.isEmpty_cons, Option.map_some, Bool.false_eq_true, if_false,
      State.raiseHits_of_group kept, State.setGroup, State.entry_setClass, reduceCtorEq]

theorem State.markMatch_of_unicast {s : State} {i : Index} {c : Claim} (hu : (s.entry i).use = .unicast c) (r : Handle)
    (cls : FrameClass) (k : HostId) :
    s.markMatch r cls (some i) [k] =
      (s.setClass r cls (some (s.entryRef i))).setEntry i
        { s.entry i with use := .unicast { c with hits := bump c.hits } } := by
  have kept : ((s.setClass r cls (some (s.entryRef i))).entry i).use = .unicast c := by rw [State.entry_setClass, hu]
  simp only [State.markMatch, List.isEmpty_cons, Option.map_some, Bool.false_eq_true, if_false,
    State.raiseHits_of_unicast kept, State.setClaim, State.entry_setClass]

theorem State.markMatch_of_none (s : State) (r : Handle) (cls : FrameClass) (targets : List HostId) :
    s.markMatch r cls none targets = if targets = [] then s else s.setClass r cls none := by
  cases targets <;> rfl

/-! ### The classification -/

/-- The frame delivered to the targets of its class; one placed by none is counted NO_TAKER (R98, R99). -/
theorem State.classify_of_deliver {s : State} {source dest : Address} {cls : FrameClass} {matched : Option Index}
    {action : SleepAction} {targets : List HostId}
    (found : (s.observeSource source).classifyLine dest = .deliver cls matched action targets) (r : Handle) :
    s.classify r source dest =
      let u := (s.observeSource source).markMatch r cls matched targets
      let v := u.deliverAll targets ⟨r, cls, matched.map u.entryRef, action⟩
      if v.2 = 0 then v.1.countDevice (fun d => { d with noTaker := bump d.noTaker }) else v.1 := by
  simp only [State.classify, found]

/-- A group entry has a member (R2). -/
theorem State.TableLaw.members_ne_nil {s : State} (law : s.TableLaw) {i : Index} {g : Group}
    (hu : (s.entry i).use = .group g) : g.members.members ≠ [] := by
  have lawful := law.entries i
  rw [hu] at lawful
  exact Group.Lawful.member lawful

/-- Settles O46: the destination by what the Classifier finds for it, then the match marked and the deliveries. -/
theorem classificationOfALineFrame : Obligations.ClassificationOfALineFrame := by
  unfold Obligations.ClassificationOfALineFrame
  intro s r source dest law t settle attached out
  refine ⟨?_, fun hb hg => ⟨?_, fun unheld => ?_⟩, fun hg => ⟨?_, fun unbound => ⟨fun k hk there => ?_,
      fun lost => ?_⟩⟩⟩
  · rintro rfl
    have marks : t.markMatch r .broadcast none t.attachedHosts =
        if attached = [] then t else t.setClass r .broadcast none := State.markMatch_of_none ..
    refine (State.classify_of_deliver t.classifyLine_broadcast r).trans ?_
    simp only
    rw [show (s.observeSource source).markMatch r .broadcast none _ = _ from marks]
    rfl
  · rintro i g hu rfl ref u
    have found := State.classifyLine_of_group hb hg ((State.groupAt_some law).2 ⟨hu, rfl⟩)
    have marks : t.markMatch r .groupMatch (some i) g.members.members =
        u.setEntry i { t.entry i with use := .group { g with hits := bump g.hits } } := by
      rw [State.markMatch_of_group hu, if_neg (law.members_ne_nil hu)]
      rfl
    refine (State.classify_of_deliver found r).trans ?_
    simp only
    rw [marks, Option.map_some, State.entryRef_setEntry, State.setEntry_setClass]
    rfl
  · have found := State.classifyLine_of_no_group hb hg (State.groupAt_of_unheld law unheld)
    simp only [out, State.classify, found]
    rfl
  · rintro i c hu rfl hs ref u
    have found := State.classifyLine_of_claim hg ((State.boundAt_some law).2 ⟨hu, rfl, hs⟩)
    refine (State.classify_of_deliver found r).trans ?_
    simp only
    rw [State.markMatch_of_unicast hu, Option.map_some, State.entryRef_setEntry, State.setEntry_setClass]
    rfl
  · have found := State.classifyLine_of_unknown hg ((State.boundAt_none law).2 unbound)
    rw [State.defaultHost_of_attached hk ((HostCtx.attached_iff _).2 there)] at found
    exact State.classify_of_deliver found r
  · have found := State.classifyLine_of_unknown hg ((State.boundAt_none law).2 unbound)
    rw [State.no_defaultHost lost] at found
    simp only [out, State.classify, found]
    rfl

end Sys2Proof.Machine
end

section
/-! The references of the pool, by the pool alone. -/

namespace Sys2Proof.Machine

/-- The pool after a reference on a record is dropped (R69, R71). -/
def Pool.dropRef (p : Pool) (r : Handle) : Pool :=
  match p.records[r] with
  | some rec =>
    if rec.refs ≤ 1 then
      { p with
        records := p.records.set r none
        freeCells := p.freeCells ++ rec.chain
        freeRecords := p.freeRecords ++ [r] }
    else { p with records := p.records.set r (some { rec with refs := rec.refs - 1 }) }
  | none => p

def Pool.dropRefs (p : Pool) (rs : List Handle) : Pool := rs.foldl Pool.dropRef p

theorem State.dropRef_eq (s : State) (r : Handle) : s.dropRef r = { s with pool := s.pool.dropRef r } := by
  rcases hr : s.record r with _ | rec
  · have free : s.pool.records[r] = none := hr
    simp only [State.dropRef_of_free hr, Pool.dropRef, free]
  · have taken : s.pool.records[r] = some rec := hr
    by_cases last : rec.refs ≤ 1
    · simp only [State.dropRef_of_last hr last, Pool.dropRef, taken, last, if_true]
      rfl
    · simp only [State.dropRef, hr, Pool.dropRef, taken, last, if_false]
      rfl

theorem State.dropRefs_eq (s : State) (rs : List Handle) : s.dropRefs rs = { s with pool := s.pool.dropRefs rs } := by
  induction rs generalizing s with
  | nil => rfl
  | cons r rs ih => exact (ih (s.dropRef r)).trans (by rw [State.dropRef_eq]; rfl)

@[simp] theorem State.pool_dropRef (s : State) (r : Handle) : (s.dropRef r).pool = s.pool.dropRef r := by
  rw [State.dropRef_eq]

@[simp] theorem State.pool_dropRefs (s : State) (rs : List Handle) : (s.dropRefs rs).pool = s.pool.dropRefs rs := by
  rw [State.dropRefs_eq]

theorem Pool.dropRefs_append (p : Pool) (rs rs' : List Handle) :
    p.dropRefs (rs ++ rs') = (p.dropRefs rs).dropRefs rs' := List.foldl_append

end Sys2Proof.Machine
end

section
/-! The end of a frame's handling, and the completions (R149, R151, R153). -/

namespace Sys2Proof.Machine

/-- The end of a frame's handling in the fields it changes. -/
theorem State.endHandling_eq (s : State) (f : OnPath) (o : TxOutcome) :
    s.endHandling f o =
      { s with
        pool := s.pool.dropRef f.handle
        arbiter :=
          { s.arbiter with
            path := none
            hosts :=
              if f.discard then s.arbiter.hosts
              else s.arbiter.hosts.set f.sender
                { s.tx f.sender with ring := (s.tx f.sender).ring ++ [⟨f.sequence, o, f.delivered⟩] } } } := by
  by_cases hd : f.discard = true <;>
    simp only [State.endHandling, State.recordCompletion, hd, if_true, if_false, Bool.false_eq_true,
      State.dropRef_eq] <;> rfl

/-- Settles O49: the completion of a frame on the path, and the ring emptied into its response. -/
theorem sendCompletionAndReadCompletions : Obligations.SendCompletionAndReadCompletions := by
  unfold Obligations.SendCompletionAndReadCompletions
  refine ⟨fun s runs => ⟨fun idle => ⟨?_, ?_⟩, fun f busy => ⟨fun rec hr => ?_, ?_⟩⟩, fun s h tag seq ready hseq => ?_⟩
  · refine (running_of_runs runs sendCompleted).trans ?_
    simp only [sendCompleted, idle]
  · simp only [State.wireBytes, runs, idle]
  · simp only [State.wireBytes, runs, busy, State.frameBytes_of_record hr]
  · refine (running_of_runs runs sendCompleted).trans ?_
    simp only [sendCompleted, busy, State.endHandling_eq, State.pool_dropRef]
    rfl
  · refine ready.heard.exec_accepted .readCompletions tag rfl nofun ?_
    have answers (b : Byte) (onPath : byte (boolCode (s.arbiter.path.any fun f => f.sender = h && !f.discard)) = b) :
        readCompletionsRequest h [] s = accepted (s.setTx h { s.tx h with ring := [] })
          ([byte (s.tx h).queue.length, b] ++ word16Bytes seq ++ [byte (s.tx h).ring.length] ++
            (s.tx h).ring.flatMap completionBytes) := by
      simp only [readCompletionsRequest, ready.not_asleep, onPath, hseq]
      rfl
    refine answers _ ?_
    rcases s.arbiter.path with _ | f
    · rfl
    · by_cases own : f.sender = h <;> cases hd : f.discard <;> simp [own, hd, boolCode, byte]

end Sys2Proof.Machine
end

section
/-! The wire frame end, and the line's events (R82, R83, R88 to R90, R150). -/

namespace Sys2Proof.Machine

/-! ### The end of a reception -/

theorem State.settleReception_of_exhausted {s : State} {r : Handle} {rec : FrameRecord} (hr : s.record r = some rec)
    (out : rec.exhausted = some true) (n : Nat) (o : RxOutcome) :
    s.settleReception r n o = (s.countDevice (fun d => { d with noCells := bump d.noCells })).dropRef r := by
  simp [State.settleReception, hr, out]

/-- A frame that is not GOOD is counted, and no more. -/
theorem State.settleReception_of_not_exhausted {s : State} {r : Handle}
    (cells : ∀ rec, s.record r = some rec → rec.exhausted ≠ some true) {o : RxOutcome} (bad : o ≠ .good) (n : Nat) :
    s.settleReception r n o = (s.countDevice (·.count o)).dropRef r := by
  have kept : (s.record r).any (fun rec => rec.exhausted = some true) = false := by
    rcases hr : s.record r with _ | rec
    · rfl
    · simpa using cells rec hr
  cases o
  case good => exact absurd rfl bad
  all_goals simp only [State.settleReception, kept, Bool.false_eq_true, if_false]

/-- A GOOD frame's record takes its length, and the frame is classified before the reference is dropped (R89). -/
theorem State.settleReception_of_good {s : State} {r : Handle} {rec : FrameRecord} (hr : s.record r = some rec)
    (cells : rec.exhausted ≠ some true) (n : Nat) :
    s.settleReception r n .good =
      let bytes := chainBytes s.pool.store rec.chain (n - 4)
      let t := (s.countDevice (fun d => { d with lineGood := bump d.lineGood })).setRecord r
        (some { rec with length := some (n - 4), exhausted := none })
      (t.classify r (sourceOf bytes) (destinationOf bytes)).dropRef r := by
  have finished : (s.countDevice (·.count .good)).finishRecord r (n - 4) =
      (s.countDevice (·.count .good)).setRecord r (some { rec with length := some (n - 4), exhausted := none }) := by
    have hr' : (s.countDevice (·.count .good)).record r = some rec := hr
    simp only [State.finishRecord, hr']
  have bytes : ((s.countDevice (·.count .good)).setRecord r
      (some { rec with length := some (n - 4), exhausted := none })).frameBytes r =
        chainBytes s.pool.store rec.chain (n - 4) :=
    State.frameBytes_of_record (State.record_setRecord_self ..)
  simp only [State.settleReception, hr, Option.any_some, cells, decide_false, Bool.false_eq_true, if_false, finished,
    bytes]
  rfl

theorem State.endReception_of_storing {x : Reception} {r : Handle} (hm : x.mode = .storing r) (s : State)
    (o : RxOutcome) : s.endReception x o = (s.setReception none).settleReception r x.received o := by
  simp only [State.endReception, hm]

theorem State.endReception_of_ignoring {x : Reception} (hm : x.mode = .ignoring) (s : State) (o : RxOutcome) :
    s.endReception x o = s.setReception none := by
  simp only [State.endReception, hm]

/-! ### The outcome (R88) -/

theorem Reception.outcome_of_short {x : Reception} (short : x.received < 64) : x.outcome = .runt := if_pos short

theorem Reception.outcome_of_long {x : Reception} (long : 1518 < x.received) : x.outcome = .giant := by
  rw [Reception.outcome, if_neg (by omega), if_pos long]

theorem Reception.outcome_of_length {x : Reception} (low : 64 ≤ x.received) (high : x.received ≤ 1518) :
    x.outcome = if x.errorSeen = true ∨ crcBytes x.check ≠ x.recent then .badCheck else .good := by
  rw [Reception.outcome, if_neg (by omega), if_neg (by omega)]
  simp [bne_iff_ne]

/-- Settles O44: the outcome by the length, the error and the check, then the record's end. -/
theorem wireFrameEndSettlesTheFrame : Obligations.WireFrameEndSettlesTheFrame := by
  unfold Obligations.WireFrameEndSettlesTheFrame
  intro s runs
  have ends : exec .wireFrameEnd s = .next (wireFrameEnded s) := running_of_runs runs wireFrameEnded
  refine ⟨fun idle => ?_, ?_⟩
  · rw [ends]
    simp only [wireFrameEnded, idle]
  intro x hx count d
  refine ⟨fun hm => ?_, fun r rec hm hr => ?_⟩
  · rw [ends]
    simp only [wireFrameEnded, hx, State.endReception_of_ignoring hm]
    rfl
  · have settles : exec .wireFrameEnd s = .next ((s.setReception none).settleReception r x.received x.outcome) := by
      rw [ends]
      simp only [wireFrameEnded, hx, State.endReception_of_storing hm]
    have recorded : (s.setReception none).record r = some rec := hr
    refine ⟨fun out => ?_, fun cells => ?_⟩
    · rw [settles, State.settleReception_of_exhausted recorded out]
      rfl
    · have bad {o : RxOutcome} (ho : x.outcome = o) (hb : o ≠ .good) :
          exec .wireFrameEnd s = .next ((count (d.count o)).dropRef r) := by
        rw [settles, ho, State.settleReception_of_not_exhausted (fun rec' e => ?_) hb]
        · rfl
        · rwa [← Option.some.inj (recorded.symm.trans e)]
      refine ⟨fun short => bad (Reception.outcome_of_short short) nofun, fun long => bad
          (Reception.outcome_of_long long) nofun,
        fun low high => ⟨fun spoilt => bad ((Reception.outcome_of_length low high).trans (if_pos spoilt)) nofun,
          fun clean check => ?_⟩⟩
      have good : x.outcome = .good := (Reception.outcome_of_length low high).trans (if_neg (by simp [clean, check]))
      rw [settles, good, State.settleReception_of_good recorded cells]
      rfl

/-! ### The line's events -/

theorem State.attachedHosts_nodup (s : State) : s.attachedHosts.Nodup := List.Nodup.filter _ (by decide)

theorem State.mem_attachedHosts {s : State} {k : HostId} : k ∈ s.attachedHosts ↔ s.attached k = true := by
  simp [State.attachedHosts, HostId.mem_all]

/-- A notice to every attached host is, for each host, the notice to it alone. -/
theorem State.host_notifyAttached (s : State) (r : Report) (k : HostId) :
    (s.notifyAll s.attachedHosts r).host k = (s.notify k r).host k := by
  rw [State.host_notifyAll s.attachedHosts_nodup]
  split
  · rfl
  · next gone => rw [State.notify_of_detached (State.attached_eq_false.1
        (by simpa [State.mem_attachedHosts] using gone))]

/-- The record that a line's reception stores its frame in, if it stores it. -/
def Line.storing (l : Line) : List Handle :=
  match l.reception.map (·.mode) with
  | some (ReceptionMode.storing r) => [r]
  | _ => []

/-- Whether a record is exhausted. -/
def State.Exhausted (s : State) (r : Handle) : Prop := ∃ rec, s.record r = some rec ∧ rec.exhausted = some true

/-- The reception's part of a line-down event in the fields it changes (R90). -/
theorem State.loseReception_eq (s : State) :
    ∃ d : DeviceCounters, s.loseReception =
        { s with line := { s.line with reception := none, counters := d }, pool := s.pool.dropRefs s.line.storing } ∧
      (s.line.storing = [] → d = s.line.counters) ∧
      ∀ r ∈ s.line.storing,
        (s.Exhausted r → d = { s.line.counters with noCells := bump s.line.counters.noCells }) ∧
        (¬ s.Exhausted r → d = { s.line.counters with lineLost := bump s.line.counters.lineLost }) := by
  rcases hx : s.line.reception with _ | x
  · have none : s.line.storing = [] := by simp only [Line.storing, hx]; rfl
    refine ⟨s.line.counters, ?_, fun _ => rfl, by simp [none]⟩
    simp only [State.loseReception, hx, none]
    simp only [← hx]
    rfl
  cases hm : x.mode with
  | ignoring =>
    have none : s.line.storing = [] := by simp only [Line.storing, hx, Option.map_some, hm]
    refine ⟨s.line.counters, ?_, fun _ => rfl, by simp [none]⟩
    simp only [State.loseReception, hx, State.endReception_of_ignoring hm, none]
    rfl
  | storing r =>
    have one : s.line.storing = [r] := by simp only [Line.storing, hx, Option.map_some, hm]
    have loses : s.loseReception = (s.setReception none).settleReception r x.received .lineLost := by
      simp only [State.loseReception, hx, State.endReception_of_storing hm]
    rw [loses, one]
    by_cases out : s.Exhausted r
    · obtain ⟨rec, hr, he⟩ := out
      refine ⟨{ s.line.counters with noCells := bump s.line.counters.noCells }, ?_, nofun, fun q hq => ?_⟩
      · rw [State.settleReception_of_exhausted (s := s.setReception none) hr he, State.dropRef_eq]
        rfl
      · obtain rfl := List.mem_singleton.1 hq
        exact ⟨fun _ => rfl, fun no => absurd ⟨rec, hr, he⟩ no⟩
    · refine ⟨{ s.line.counters with lineLost := bump s.line.counters.lineLost }, ?_, nofun, fun q hq => ?_⟩
      · rw [State.settleReception_of_not_exhausted (s := s.setReception none) (o := .lineLost)
          (fun rec hr he => out ⟨rec, hr, he⟩) (by decide), State.dropRef_eq]
        rfl
      · obtain rfl := List.mem_singleton.1 hq
        exact ⟨fun yes => absurd yes out, fun _ => rfl⟩

/-- The completion that a frame on the path leaves in a host's ring when its handling ends. -/
def OnPath.completionFor (f : OnPath) (k : HostId) (o : TxOutcome) : List Completion :=
  if f.sender = k ∧ f.discard = false then [⟨f.sequence, o, f.delivered⟩] else []

/-- The rings once the handling of a frame has ended. -/
theorem State.tx_endHandling (s : State) (f : OnPath) (o : TxOutcome) (k : HostId) :
    (s.endHandling f o).tx k = { s.tx k with ring := (s.tx k).ring ++ f.completionFor k o } := by
  rw [State.endHandling_eq]
  cases hd : f.discard
  · by_cases own : f.sender = k
    · subst own
      simp [State.tx, OnPath.completionFor, hd]
    · simp [State.tx, PerHost.get_set, OnPath.completionFor, own, Ne.symm own]
  · simp [State.tx, OnPath.completionFor, hd]

/-! ### The transmission's part of a line-down event (R150) -/

theorem State.pool_loseTransmission (s : State) :
    s.loseTransmission.pool = s.pool.dropRefs (s.arbiter.path.map (·.handle)).toList := by
  cases hp : s.arbiter.path with
  | none => simp only [State.loseTransmission, hp]; rfl
  | some f => simp only [State.loseTransmission, hp, State.endHandling_eq]; rfl

theorem State.path_loseTransmission (s : State) : s.loseTransmission.arbiter.path = none := by
  cases hp : s.arbiter.path with
  | none => simp only [State.loseTransmission, hp]
  | some f => simp only [State.loseTransmission, hp, State.endHandling_eq]

theorem State.lastGranted_loseTransmission (s : State) :
    s.loseTransmission.arbiter.lastGranted = s.arbiter.lastGranted := by
  cases hp : s.arbiter.path with
  | none => simp only [State.loseTransmission, hp]
  | some f => simp only [State.loseTransmission, hp, State.endHandling_eq]

theorem State.tx_loseTransmission_of_idle {s : State} (idle : s.arbiter.path = none) (k : HostId) :
    s.loseTransmission.tx k = s.tx k := by
  simp only [State.loseTransmission, idle]

theorem State.tx_loseTransmission_of_busy {s : State} {f : OnPath} (busy : s.arbiter.path = some f) (k : HostId) :
    s.loseTransmission.tx k = { s.tx k with ring := (s.tx k).ring ++ f.completionFor k .lineLost } := by
  simp only [State.loseTransmission, busy, State.tx_endHandling]

theorem State.loseTransmission_keeps (s : State) :
    { s.loseTransmission with pool := s.pool, arbiter := s.arbiter } = s := by
  cases hp : s.arbiter.path with
  | none => simp only [State.loseTransmission, hp]
  | some f => simp only [State.loseTransmission, hp, State.endHandling_eq]

/-- Settles O40: a rise of the line, and a fall as the reception's end, the transmission's end and the notices. -/
theorem lineEvents : Obligations.LineEvents := by
  unfold Obligations.LineEvents
  intro s runs stamp
  have live : s.resetting.isSome = false := by rw [runs]; rfl
  have up : exec .lineUpEvent s = .next (lineWentUp s) := congrArg Host.Outcome.next (if_neg (by simp [live]))
  have down : exec .lineDownEvent s = .next (lineWentDown s) := congrArg Host.Outcome.next (if_neg (by simp [live]))
  refine ⟨fun hu => ?_, fun hd => ?_, fun hd => ?_, fun hu => ?_⟩
  · rw [up, lineWentUp, if_pos hu]
  · rw [down, lineWentDown, if_neg (by simp [hd])]
  · let t : State := { s with line := { s.line with up := true, link := true, lastChange := some s.stamp } }
    refine ⟨t.notifyAll t.attachedHosts .lineUp, ?_, ?_, fun k => ?_, ?_⟩
    · rw [up, lineWentUp, if_neg (by simp [hd])]
    · simp [t, stamp, State.stamp]
    · rw [State.host_notifyAttached]
      exact State.host_notify_congr (s := t) (t := s) rfl rfl _
    · simp [t]
  · intro exhausted received sent
    obtain ⟨d, loses, unchanged, counted⟩ := s.lineFalls.loseReception_eq
    let v : State :=
      { s.lineFalls with
        line := { s.lineFalls.line with reception := none, counters := d }
        pool := s.pool.dropRefs received }
    let u := v.loseTransmission
    have falls : lineWentDown s = u.notifyAll u.attachedHosts .lineDown := by
      rw [lineWentDown, if_pos hu, loses]
      rfl
    have rest : { u with pool := v.pool, arbiter := s.arbiter } = v := v.loseTransmission_keeps
    have line : u.line = v.line := (congrArg State.line rest :)
    refine ⟨_, down.trans (congrArg _ falls), ?_⟩
    simp only [State.notifyAll_line, State.notifyAll_pool, State.notifyAll_arbiter, State.tx, line,
      State.host_notifyAttached]
    refine ⟨rfl, rfl, rfl, rfl, unchanged, counted, ?_, v.path_loseTransmission, v.lastGranted_loseTransmission,
      fun k => ?_, fun k => State.host_notify_congr (s := u) (t := s) ?_ ?_ _, ?_⟩
    · rw [v.pool_loseTransmission, State.pool_dropRefs, Pool.dropRefs_append]
      rfl
    · cases hp : s.arbiter.path with
      | none => exact (v.tx_loseTransmission_of_idle hp k).trans (by simp [State.tx, v, State.lineFalls])
      | some f => exact v.tx_loseTransmission_of_busy hp k
    · exact (congrArg (State.host · k) rest :)
    · exact (congrArg State.stamp rest :)
    · have kept := congrArg (fun w : State =>
        { w with line := s.line, hosts := s.hosts, pool := s.pool, arbiter := s.arbiter }) rest
      simp only [State.notifyAll_resetting, State.notifyAll_resetCause, State.notifyAll_table, State.notifyAll_tick,
        State.notifyAll_accord, State.notifyAll_ports, State.notifyAll_pending]
      exact kept

end Sys2Proof.Machine
end

section
/-! A frame start, and the bytes of a reception (R72 to R74, R86, R87). -/

namespace Sys2Proof.Machine

/-! ### The bytes kept back -/

theorem Reception.push_of_few {x : Reception} (few : x.recent.length < 4) (b : Byte) :
    x.push b = ({ x with received := x.received + 1, recent := x.recent ++ [b] }, none) := by
  rcases hr : x.recent with _ | ⟨e, rest⟩
  · simp only [Reception.push, hr, List.nil_append]
  · have short : rest.length < 3 := Nat.lt_of_succ_lt_succ (by simpa [hr] using few)
    simp only [Reception.push, hr, short, if_true]

/-- With four bytes kept back, the oldest of them is stored as the next arrives (R87). -/
theorem Reception.push_of_full {x : Reception} {e : Byte} {rest : List Byte} (hr : x.recent = e :: rest)
    (full : rest.length = 3) (b : Byte) :
    x.push b =
      ({ x with received := x.received + 1, recent := rest ++ [b], check := crcByte x.check e }, some e) := by
  simp only [Reception.push, hr, full, Nat.lt_irrefl, if_false]

theorem byteReceived_of_few {s : State} {x : Reception} (hx : s.line.reception = some x) (few : x.recent.length < 4)
    (b : Byte) :
    byteReceived b s =
      s.setReception (some { x with received := x.received + 1, recent := x.recent ++ [b] }) := by
  simp only [byteReceived, hx, Reception.push_of_few few]

theorem byteReceived_of_full {s : State} {x : Reception} (hx : s.line.reception = some x) {e : Byte}
    {rest : List Byte} (hr : x.recent = e :: rest) (full : rest.length = 3) (b : Byte) :
    byteReceived b s =
      (s.storeReceived x.mode (x.received - 4) e).setReception
        (some { x with received := x.received + 1, recent := rest ++ [b], check := crcByte x.check e }) := by
  simp only [byteReceived, hx, Reception.push_of_full hr full]

/-! ### The byte stored -/

theorem chainCapacity_eq : chainCapacity = 1536 := rfl

theorem State.storeReceived_of_over {s : State} {r : Handle} {rec : FrameRecord} (hr : s.record r = some rec) {k : Nat}
    (done : rec.exhausted ≠ some false ∨ 1536 ≤ k) (b : Byte) : s.storeReceived (.storing r) k b = s := by
  have no : (rec.storable && decide (k < chainCapacity)) = false := by
    rcases done with he | hk
    · simp [FrameRecord.storable, he]
    · rw [decide_eq_false (Nat.not_lt.2 (chainCapacity_eq ▸ hk)), Bool.and_false]
  simp only [State.storeReceived, hr, no, Bool.false_eq_true, if_false]

theorem State.storeReceived_of_room {s : State} {r : Handle} {rec : FrameRecord} (hr : s.record r = some rec) {k : Nat}
    (open' : rec.exhausted = some false) (hk : k < 1536) (b : Byte) :
    s.storeReceived (.storing r) k b = { s with pool := s.pool.storeByte r rec k b } := by
  have yes : (rec.storable && decide (k < chainCapacity)) = true := by
    have low : k < chainCapacity := chainCapacity_eq ▸ hk
    simp [FrameRecord.storable, open', low]
  simp only [State.storeReceived, hr, yes, if_true]

/-! ### A byte that needs a cell -/

theorem State.cellNeeded_of_storing {s : State} {x : Reception} {r : Handle} {rec : FrameRecord}
    (hx : s.line.reception = some x) (hm : x.mode = .storing r) (hr : s.record r = some rec) :
    s.cellNeeded = true ↔
      x.recent.length = 4 ∧ rec.exhausted = some false ∧ x.received - 4 < 1536 ∧
        rec.chain.length ≤ (x.received - 4) / 128 := by
  simp only [State.cellNeeded, hx, hm, hr, FrameRecord.storable, Bool.and_eq_true, decide_eq_true_eq,
    Config.cellBytes, and_assoc]
  rw [chainCapacity_eq]

theorem State.cellNeeded_of_idle {s : State} (idle : s.line.reception = none) : s.cellNeeded = false := by
  simp only [State.cellNeeded, idle]

theorem State.cellNeeded_of_ignoring {s : State} {x : Reception} (hx : s.line.reception = some x)
    (hm : x.mode = .ignoring) : s.cellNeeded = false := by
  simp only [State.cellNeeded, hx, hm]

/-- With fewer than four bytes kept back no byte is stored. -/
theorem State.cellNeeded_of_few {s : State} {x : Reception} (hx : s.line.reception = some x)
    (few : x.recent.length < 4) : s.cellNeeded = false := by
  cases hm : x.mode with
  | ignoring => exact State.cellNeeded_of_ignoring hx hm
  | storing r =>
    cases hr : s.record r with
    | none => simp only [State.cellNeeded, hx, hm, hr]
    | some rec =>
      exact Bool.eq_false_iff.2 fun need => few.ne ((State.cellNeeded_of_storing hx hm hr).1 need).1

theorem frameStarted_of_deaf {s : State} (deaf : s.line.up = false ∨ s.line.reception ≠ none) : frameStarted s = s := by
  refine if_pos ?_
  rcases deaf with hu | hx
  · simp [hu]
  · simp [Option.isSome_iff_ne_none.2 hx]

/-- Settles O41: a frame start by the line, its enable and the free records; a byte by the bytes kept back and the
record's room. -/
theorem frameStartAndReceivedBytes : Obligations.FrameStartAndReceivedBytes := by
  unfold Obligations.FrameStartAndReceivedBytes
  intro s b runs begun
  have starts : exec .frameStart s = .next (frameStarted s) := running_of_runs runs frameStarted
  have arrives : exec (.wholeByteReceived b) s = .next (byteReceived b s) := running_of_runs runs (byteReceived b)
  have needs : exec (.receptionCellNeed b) s = .next (cellNeedMet b s) := running_of_runs runs (cellNeedMet b)
  have marks : exec .receiveErrorMarked s = .next (errorMarked s) := running_of_runs runs errorMarked
  have idles (no : s.cellNeeded = false) : exec (.receptionCellNeed b) s = .next s :=
    needs.trans (congrArg _ (if_neg (by simp [no])))
  have same (yes : s.cellNeeded = true) : exec (.receptionCellNeed b) s = exec (.wholeByteReceived b) s :=
    (needs.trans (congrArg _ (if_pos yes))).trans arrives.symm
  have ready (hu : s.line.up = true) (hx : s.line.reception = none) :
      (s.line.reception.isSome || !s.line.up) = false := by simp [hu, hx]
  refine ⟨fun deaf => starts.trans (congrArg _ (frameStarted_of_deaf deaf)), fun hu hx off => ?_,
    fun hu hx on none => ?_, fun r rest hu hx on hr => ?_, fun hx => ⟨?_, idles (State.cellNeeded_of_idle hx), ?_⟩, ?_⟩
  · rw [starts]
    simp only [frameStarted, ready hu hx, off]
    rfl
  · rw [starts]
    simp only [frameStarted, ready hu hx, on, none]
    rfl
  · rw [starts]
    simp only [frameStarted, ready hu hx, on, hr]
    rfl
  · rw [arrives]
    simp only [byteReceived, hx]
  · rw [marks]
    simp only [errorMarked, hx]
  intro x hx received
  refine ⟨?_, fun few => ⟨?_, idles (State.cellNeeded_of_few hx few)⟩, ?_⟩
  · rw [marks]
    simp only [errorMarked, hx]
    rfl
  · rw [arrives, byteReceived_of_few hx few]
    rfl
  intro e rest hr full y k
  have takes : exec (.wholeByteReceived b) s =
      .next ((s.storeReceived x.mode k e).setReception (some y)) :=
    arrives.trans (congrArg _ (byteReceived_of_full hx hr full b))
  refine ⟨fun hm => ⟨?_, idles (State.cellNeeded_of_ignoring hx hm)⟩, fun r rec hm hrec => ?_⟩
  · rw [takes, hm]
    rfl
  have needed := State.cellNeeded_of_storing hx hm hrec
  rw [hm] at takes
  refine ⟨fun done => ⟨?_, idles (Bool.eq_false_iff.2 fun need => ?_)⟩, fun open' hk => ?_⟩
  · rw [takes, State.storeReceived_of_over hrec done]
    rfl
  · obtain ⟨-, he, hk, -⟩ := needed.1 need
    exact done.elim (fun ne => ne he) (fun beyond => absurd hk (Nat.not_lt.2 beyond))
  have stores : exec (.wholeByteReceived b) s = received y (s.pool.storeByte r rec k e) := by
    rw [takes, State.storeReceived_of_room hrec open' hk]
    rfl
  refine ⟨fun fits => ⟨?_, idles (Bool.eq_false_iff.2 fun need => ?_)⟩, fun short => ?_⟩
  · rw [stores, Pool.storeByte, if_pos fits]
  · obtain ⟨-, -, -, beyond⟩ := needed.1 need
    exact absurd fits (Nat.not_lt.2 beyond)
  have need := needed.2 ⟨by simp [hr, full], open', hk, short⟩
  have grows : s.pool.storeByte r rec k e = _ := if_neg (Nat.not_lt.2 short)
  refine ⟨fun c free hfree => ?_, fun none => ?_⟩
  · have out := stores.trans (congrArg (received y) grows)
    simp only [hfree] at out
    exact ⟨out, (same need).trans out⟩
  · have out := stores.trans (congrArg (received y) grows)
    simp only [none] at out
    exact ⟨out, (same need).trans out⟩

end Sys2Proof.Machine
end

section
/-! The grant (R145 to R148). -/

namespace Sys2Proof.Machine

/-! ### The host chosen -/

theorem TxHost.eligible_iff {t : TxHost} : t.eligible = true ↔ t.queue ≠ [] ∧ t.ring.length < 8 := by
  simp [TxHost.eligible, Config.completionRingSize]

theorem mem_circleAfter (h k : HostId) : k ∈ circleAfter h := by cases h <;> cases k <;> decide

theorem Arbiter.choice_none {a : Arbiter} (none : ∀ k : HostId, ¬ (a.hosts.get k).eligible = true) :
    a.choice = Option.none :=
  List.find?_eq_none.2 fun k _ => none k

theorem Arbiter.choice_some {a : Arbiter} {before after : List HostId} {h : HostId}
    (circle : circleAfter a.lastGranted = before ++ h :: after)
    (passed : ∀ k ∈ before, ¬ (a.hosts.get k).eligible = true) (takes : (a.hosts.get h).eligible = true) :
    a.choice = some h :=
  List.find?_eq_some_iff_append.2 ⟨takes, before, after, circle, by simpa using passed⟩

/-! ### The route of a frame (R146) -/

theorem State.route_broadcast (s : State) (h : HostId) :
    s.route h broadcastAddress = ⟨some .broadcast, none, .hold, s.attachedHosts.filter (· ≠ h), .line⟩ := if_pos rfl

theorem State.route_of_group {s : State} {dest : Address} (hb : dest ≠ broadcastAddress)
    (hg : isGroupAddress dest = true) {i : Index} {g : Group} (found : s.groupAt dest = some (i, g)) (h : HostId) :
    s.route h dest = ⟨some .groupMatch, some i, .hold, g.members.members.filter (· ≠ h), .line⟩ := by
  simp only [State.route, hb, hg, found, if_false, if_true]

theorem State.route_of_no_group {s : State} {dest : Address} (hb : dest ≠ broadcastAddress)
    (hg : isGroupAddress dest = true) (lost : s.groupAt dest = none) (h : HostId) : s.route h dest = .lineOnly := by
  simp only [State.route, hb, hg, lost, if_false, if_true]

theorem State.route_of_own_claim {s : State} {dest : Address} (hg : isGroupAddress dest = false) {i : Index}
    {c : Claim} (found : s.boundAt dest = some (i, c)) :
    s.route c.owner dest = ⟨none, none, .hold, [], .none .selfDestined⟩ := by
  simp only [State.route, ne_broadcast_of_unicast hg, hg, found, Bool.false_eq_true, if_false, if_true]

theorem State.route_of_claim {s : State} {dest : Address} (hg : isGroupAddress dest = false) {i : Index}
    {c : Claim} (found : s.boundAt dest = some (i, c)) {h : HostId} (other : c.owner ≠ h) :
    s.route h dest = ⟨some .localSwitch, some i, c.action, [c.owner], .none .localSwitch⟩ := by
  simp only [State.route, ne_broadcast_of_unicast hg, hg, found, other, Bool.false_eq_true, if_false]

theorem State.route_of_unbound {s : State} {dest : Address} (hg : isGroupAddress dest = false)
    (lost : s.boundAt dest = none) (h : HostId) : s.route h dest = .lineOnly := by
  simp only [State.route, ne_broadcast_of_unicast hg, hg, lost, Bool.false_eq_true, if_false]

theorem filter_filter_ne (l : List HostId) (f : HostId → Bool) (h : HostId) :
    (l.filter f).filter (· ≠ h) = l.filter (fun k => f k && k ≠ h) := by
  rw [List.filter_filter]
  exact List.filter_congr fun k _ => Bool.and_comm ..

theorem State.switchLocally_line (s : State) (r : Handle) (x : Route) : (s.switchLocally r x).1.line = s.line := by
  unfold State.switchLocally
  split <;> simp

theorem State.switchLocally_accord (s : State) (r : Handle) (x : Route) :
    (s.switchLocally r x).1.accord = s.accord := by
  unfold State.switchLocally
  split <;> simp

/-! ### The grant -/

theorem granted_of_idle {s : State} (stays : s.arbiter.path ≠ none ∨ ∀ k : HostId, ¬ (s.tx k).eligible = true) :
    granted s = s := by
  by_cases busy : s.arbiter.path.isSome = true
  · exact if_pos busy
  · have none := stays.resolve_left fun ne => busy (Option.isSome_iff_ne_none.2 ne)
    simp only [granted, busy, Bool.false_eq_true, if_false, Arbiter.choice_none none]

theorem granted_of_choice {s : State} (idle : s.arbiter.path = none) {h : HostId} (chosen : s.arbiter.choice = some h)
    {q : TxPosition} {rest : List TxPosition} (hq : (s.tx h).queue = q :: rest) : granted s = s.grantTo h q rest := by
  simp only [granted, idle, Option.isSome_none, Bool.false_eq_true, if_false, chosen, hq]

/-- Settles O48: the host chosen, the route of its head frame by what its destination finds, and the frame's line
part. -/
theorem grantSwitchesTheHeadFrame : Obligations.GrantSwitchesTheHeadFrame := by
  unfold Obligations.GrantSwitchesTheHeadFrame
  intro s runs eligible last
  have grants : exec .grant s = .next (granted s) := running_of_runs runs granted
  have able (k : HostId) : (s.tx k).eligible = true ↔ eligible k := TxHost.eligible_iff
  refine ⟨fun stays => grants.trans (congrArg _ (granted_of_idle (stays.imp_right fun none k => ?_))), ?_⟩
  · exact fun e => none k ((able k).1 e)
  intro before after h q rest rec idle circle passed takes hq hr law t dest ends toLine others out
  have chosen : s.arbiter.choice = some h :=
    Arbiter.choice_some circle (fun k hk e => passed k hk ((able k).1 e)) ((able h).2 takes)
  have bytes : t.frameBytes q.handle = chainBytes s.pool.store rec.chain (rec.length.getD 0) :=
    State.frameBytes_of_record (s := t) hr
  have gives {x : Route} (route : t.route h dest = x) :
      out = .next ((t.switchLocally q.handle x).1.giveToLine
        ⟨q.handle, h, q.sequence, (t.switchLocally q.handle x).2, false⟩ x.linePart) := by
    have goes : s.grantTo h q rest =
        (t.switchLocally q.handle (t.route h (destinationOf (t.frameBytes q.handle)))).1.giveToLine
          ⟨q.handle, h, q.sequence,
            (t.switchLocally q.handle (t.route h (destinationOf (t.frameBytes q.handle)))).2, false⟩
          (t.route h (destinationOf (t.frameBytes q.handle))).linePart := rfl
    have found : t.route h (destinationOf (t.frameBytes q.handle)) = x := by rw [bytes]; exact route
    rw [show out = _ from grants, granted_of_choice idle chosen hq, goes, found]
  have lined {x : Route} (route : t.route h dest = x) (line : x.linePart = .line) {v : State × Nat}
      (switched : t.switchLocally q.handle x = v) : out = toLine v := by
    have up : v.1.line.up = s.line.up := congrArg Line.up (switched ▸ t.switchLocally_line q.handle x)
    have enable : v.1.accord.config.lineEnable = s.accord.config.lineEnable :=
      congrArg (·.config.lineEnable) (switched ▸ t.switchLocally_accord q.handle x)
    rw [gives route, line, switched]
    simp only [State.giveToLine, up, enable, Bool.not_eq_true', toLine]
    split_ifs <;> rfl
  have ended {x : Route} (route : t.route h dest = x) {o : TxOutcome} (line : x.linePart = .none o) {v : State × Nat}
      (switched : t.switchLocally q.handle x = v) : out = ends v o := by
    rw [gives route, line, switched]
    rfl
  have law' : t.TableLaw := ⟨law.entries, law.unique⟩
  refine ⟨?_, fun hb hg => ⟨?_, fun unheld => ?_⟩, fun hg => ⟨?_, fun unbound => ?_⟩⟩
  · intro hb targets
    have all : t.attachedHosts.filter (· ≠ h) = targets := filter_filter_ne ..
    have route : t.route h dest = ⟨some .broadcast, none, .hold, targets, .line⟩ := by
      rw [← all, hb]
      exact t.route_broadcast h
    refine lined route rfl ?_
    simp only [State.switchLocally, State.markMatch_of_none]
    rfl
  · intro i g hu ha ref targets u
    have all : g.members.members.filter (· ≠ h) = targets := filter_filter_ne ..
    have route := State.route_of_group hb hg ((State.groupAt_some law').2 ⟨hu, ha⟩) h
    rw [all] at route
    refine lined route rfl ?_
    have kept : (t.entry i).use = .group g := hu
    simp only [State.switchLocally, State.markMatch_of_group kept, Option.map_some, State.entryRef_setEntry]
    by_cases none : targets = []
    · simp only [u, none, if_true]
      rfl
    · simp only [u, none, if_false, State.setEntry_setClass]
      rfl
  · exact lined (State.route_of_no_group hb hg (State.groupAt_of_unheld law' unheld) h) rfl rfl
  · intro i c hu ha hs ref
    have found := (State.boundAt_some law').2 ⟨hu, ha, hs⟩
    refine ⟨?_, ?_⟩
    · rintro rfl
      exact ended (State.route_of_own_claim hg found) rfl rfl
    · intro other u
      refine ended (State.route_of_claim hg found other) rfl ?_
      have kept : (t.entry i).use = .unicast c := hu
      simp only [State.switchLocally, State.markMatch_of_unicast kept, Option.map_some, State.entryRef_setEntry]
      rw [State.setEntry_setClass]
      rfl
  · exact lined (State.route_of_unbound hg ((State.boundAt_none law').2 unbound) h) rfl rfl

end Sys2Proof.Machine
end

section
/-! The configuration record and its 20 bytes (R158, R187, section 11.8). -/

namespace Sys2Proof.Machine

/-! ### The readers of its fields -/

theorem tickPeriodOf_some {b : Byte} {t : TickPeriod} : tickPeriodOf b = some t ↔ b = byte t.code :=
  ⟨eq_byte_of_ofCode, by rintro rfl; exact tickPeriodOf_byte t⟩

theorem boolOf_some {b : Byte} {v : Bool} : boolOf b = some v ↔ b = byte (boolCode v) :=
  ⟨eq_byte_of_ofCode, by rintro rfl; exact boolOf_byte v⟩

theorem unknownPolicyOf_zero (d : Byte) : unknownPolicyOf 0 d = if d = 0xFF then some .discard else none := if_pos rfl

theorem unknownPolicyOf_one (d : Byte) : unknownPolicyOf 1 d = (hostOf d).map .defaultHost := rfl

theorem unknownPolicyOf_of_big {p : Byte} (big : 1 < p.toNat) (d : Byte) : unknownPolicyOf p d = none := by
  have h0 : p ≠ 0 := by bv_omega
  have h1 : p ≠ 1 := by bv_omega
  rw [unknownPolicyOf, if_neg h0, if_neg h1]

theorem policy_cases (p : Byte) : p = 0 ∨ p = 1 ∨ 1 < p.toNat := by bv_omega

theorem unknownPolicyOf_some {p d : Byte} {u : UnknownPolicy} :
    unknownPolicyOf p d = some u ↔ unknownPolicyBytes u = [p, d] := by
  obtain rfl | rfl | big := policy_cases p
  · rw [unknownPolicyOf_zero]
    cases u <;> simp [unknownPolicyBytes, absentByte, eq_comm]
  · rw [unknownPolicyOf_one, Option.map_eq_some_iff]
    cases u with
    | discard => simp [unknownPolicyBytes]
    | defaultHost k => simpa [unknownPolicyBytes, hostOf_some] using eq_comm
  · rw [unknownPolicyOf_of_big big]
    cases u <;> simp only [unknownPolicyBytes, List.cons.injEq, reduceCtorEq, false_iff] <;>
      exact fun e => absurd big (e.1 ▸ by decide)

theorem unknownPolicyOf_none {p d : Byte} :
    unknownPolicyOf p d = none ↔
      1 < p.toNat ∨ (p.toNat = 0 ∧ d.toNat ≠ 255) ∨ (p.toNat = 1 ∧ 3 < d.toNat) := by
  obtain rfl | rfl | big := policy_cases p
  · have absent : d = 0xFF ↔ d.toNat = 255 := by bv_omega
    simp only [unknownPolicyOf_zero, absent]
    simp
  · rw [unknownPolicyOf_one, Option.map_eq_none_iff, hostOf_none]
    simp
  · simp [unknownPolicyOf_of_big big, big]

theorem perHostOf_some {f : Nat → Option Nat} {k n : Nat} {v : PerHost Nat} :
    perHostOf f k n = some v ↔ ∀ h : HostId, f (k + h.toNat * n) = some (v.get h) := by
  simp only [perHostOf, Option.bind_eq_bind, Option.bind_eq_some_iff, Option.pure_def, Option.some.injEq]
  constructor
  · rintro ⟨_, h0, _, h1, _, h2, _, h3, rfl⟩ h
    cases h <;> simpa [HostId.toNat]
  · exact fun all => ⟨_, by simpa [HostId.toNat, PerHost.get] using all .h0, _,
      by simpa [HostId.toNat, PerHost.get] using all .h1, _, all .h2, _, all .h3, rfl⟩

/-- A record is read field by field. -/
theorem configRecordOf_some {b : List Byte} {r : ConfigRecord} :
    configRecordOf b = some r ↔
      tickPeriodOf (byteAt b 0) = some r.tickPeriod ∧ (byteAt b 1).toNat = r.probeWindow ∧
      rangeOf 1 255 (byteAt b 2) = some r.stageHold ∧ (byteAt b 3).toNat = r.lapseGrace ∧
      rangeOf 1 255 (byteAt b 4) = some r.accordWindow ∧ unknownPolicyOf (byteAt b 5) (byteAt b 6) = some r.unknown ∧
      boolOf (byteAt b 7) = some r.lineEnable ∧
      (∀ h : HostId, rangeOf 1 64 (byteAt b (8 + h.toNat * 1)) = some (r.entryLimit.get h)) ∧
      ∀ h : HostId, range16Of 12 384 (word16At b (12 + h.toNat * 2)) = some (r.cellQuota.get h) := by
  simp only [configRecordOf, Option.bind_eq_bind, Option.bind_eq_some_iff, Option.pure_def, Option.some.injEq,
    perHostOf_some]
  constructor
  · rintro ⟨_, h0, _, h2, _, h4, _, h5, _, h7, _, h8, _, h12, rfl⟩
    exact ⟨h0, rfl, h2, rfl, h4, h5, h7, h8, h12⟩
  · rintro ⟨h0, h1, h2, h3, h4, h5, h7, h8, h12⟩
    exact ⟨_, h0, _, h2, _, h4, _, h5, _, h7, _, h8, _, h12, by rw [h1, h3]⟩

/-! ### The twenty bytes -/

/-- The bytes of a record, with those of its policy given. -/
theorem configRecordBytes_eq {r : ConfigRecord} {p d : Byte} (hu : unknownPolicyBytes r.unknown = [p, d]) :
    configRecordBytes r =
      byte r.tickPeriod.code :: byte r.probeWindow :: byte r.stageHold :: byte r.lapseGrace :: byte r.accordWindow ::
        p :: d :: byte (boolCode r.lineEnable) :: byte r.entryLimit.h0 :: byte r.entryLimit.h1 ::
        byte r.entryLimit.h2 :: byte r.entryLimit.h3 ::
        (nat16Bytes r.cellQuota.h0 ++ (nat16Bytes r.cellQuota.h1 ++ (nat16Bytes r.cellQuota.h2 ++
          (nat16Bytes r.cellQuota.h3 ++ [])))) := by
  simp only [configRecordBytes, hu, List.cons_append, List.append_assoc, List.nil_append, List.append_nil]

theorem unknownPolicyBytes_eq (u : UnknownPolicy) : ∃ p d : Byte, unknownPolicyBytes u = [p, d] := by
  cases u <;> exact ⟨_, _, rfl⟩

theorem rangeOf_byte {lo hi n : Nat} (top : hi ≤ 255) (low : lo ≤ n) (high : n ≤ hi) :
    rangeOf lo hi (byte n) = some n :=
  rangeOf_some.2 ⟨byte_toNat (by omega), low, high⟩

theorem range16Of_nat16Bytes {lo hi n : Nat} (top : hi ≤ 65535) (low : lo ≤ n) (high : n ≤ hi) (l : List Byte) :
    range16Of lo hi (word16At (nat16Bytes n ++ l) 0) = some n := by
  rw [word16At_nat16Bytes]
  exact range16Of_some.2 ⟨by rw [BitVec.toNat_ofNat]; omega, low, high⟩

/-- A lawful record reads back from its bytes. -/
theorem configRecordOf_configRecordBytes {r : ConfigRecord} (law : r.Lawful) :
    configRecordOf (configRecordBytes r) = some r := by
  obtain ⟨p, d, hu⟩ := unknownPolicyBytes_eq r.unknown
  obtain ⟨probe, ⟨hold, hold'⟩, grace, ⟨window, window'⟩, limit, quota⟩ := law
  rw [configRecordOf_some, configRecordBytes_eq hu]
  refine ⟨tickPeriodOf_byte _, byte_toNat (by omega), rangeOf_byte (by omega) hold hold', byte_toNat (by omega),
    rangeOf_byte (by omega) window window', unknownPolicyOf_some.2 hu, boolOf_byte _, fun h => ?_, fun h => ?_⟩
  · obtain ⟨low, high⟩ := limit h
    cases h <;> exact rangeOf_byte (by omega) low high
  · obtain ⟨low, high⟩ := quota h
    have reads := range16Of_nat16Bytes (by omega) low high
    cases h
    · exact reads (nat16Bytes r.cellQuota.h1 ++ (nat16Bytes r.cellQuota.h2 ++ (nat16Bytes r.cellQuota.h3 ++ [])))
    · exact reads (nat16Bytes r.cellQuota.h2 ++ (nat16Bytes r.cellQuota.h3 ++ []))
    · exact reads (nat16Bytes r.cellQuota.h3 ++ [])
    · exact reads []

theorem nat16Bytes_word16At (b : List Byte) (k : Nat) :
    nat16Bytes (word16At b k).toNat = [byteAt b k, byteAt b (k + 1)] := by
  rw [nat16Bytes, BitVec.ofNat_toNat, BitVec.setWidth_eq]
  exact word16Bytes_append ..

theorem eq_of_length_twenty {b : List Byte} (hb : b.length = 20) :
    b = (List.range 20).map (byteAt b) := by
  refine List.ext_getElem (by simp [hb]) fun k hk _ => ?_
  simp [byteAt, List.getElem?_eq_getElem hk]

/-- Twenty bytes that read as a record are its bytes, and its fields lie in their ranges. -/
theorem configRecordBytes_of_some {b : List Byte} {r : ConfigRecord} (hb : b.length = 20)
    (hr : configRecordOf b = some r) : r.Lawful ∧ configRecordBytes r = b := by
  obtain ⟨h0, h1, h2, h3, h4, h5, h7, h8, h12⟩ := configRecordOf_some.1 hr
  simp only [rangeOf_some, range16Of_some] at h2 h4 h8 h12
  have small (b : Byte) : b.toNat ≤ 255 := by have := b.isLt; omega
  refine ⟨⟨h1 ▸ small _, h2.2, h3 ▸ small _, h4.2, fun h => (h8 h).2, fun h => (h12 h).2⟩, ?_⟩
  have limit (h : HostId) : byte (r.entryLimit.get h) = byteAt b (8 + h.toNat * 1) := by
    rw [← (h8 h).1, byte_toNat_self]
  have quota (h : HostId) : nat16Bytes (r.cellQuota.get h) =
      [byteAt b (12 + h.toNat * 2), byteAt b (12 + h.toNat * 2 + 1)] := by
    rw [← (h12 h).1, nat16Bytes_word16At]
  rw [configRecordBytes_eq (unknownPolicyOf_some.1 h5), ← tickPeriodOf_some.1 h0, ← boolOf_some.1 h7, ← h1, ← h2.1,
      ← h3,
    ← h4.1]
  simp only [byte_toNat_self]
  rw [show byte r.entryLimit.h0 = _ from limit .h0, show byte r.entryLimit.h1 = _ from limit .h1,
    show byte r.entryLimit.h2 = _ from limit .h2, show byte r.entryLimit.h3 = _ from limit .h3,
    show nat16Bytes r.cellQuota.h0 = _ from quota .h0, show nat16Bytes r.cellQuota.h1 = _ from quota .h1,
    show nat16Bytes r.cellQuota.h2 = _ from quota .h2, show nat16Bytes r.cellQuota.h3 = _ from quota .h3]
  exact (eq_of_length_twenty hb).symm

/-- Settles O60: both directions, and the layout by the policy. -/
theorem configRecordReadsBack : Obligations.ConfigRecordReadsBack := by
  unfold Obligations.ConfigRecordReadsBack
  refine ⟨fun r law => ⟨?_, configRecordOf_configRecordBytes law⟩, fun r => ?_, fun b r => configRecordBytes_of_some⟩
  · obtain ⟨p, d, hu⟩ := unknownPolicyBytes_eq r.unknown
    rw [configRecordBytes_eq hu]
    rfl
  · obtain ⟨period, probe, hold, grace, window, unknown, enable, limit, quota⟩ := r
    cases period <;> cases unknown <;> cases enable <;> rfl

end Sys2Proof.Machine
end

section
/-! The application of a proposal (R91, R168, R169). -/

namespace Sys2Proof.Machine

/-! ### A disabled line's reception (R91) -/

theorem State.disableReception_of_idle {s : State} (idle : s.line.reception = none) : s.disableReception = s := by
  simp only [State.disableReception, idle]

theorem State.disableReception_of_ignoring {s : State} {x : Reception} (hx : s.line.reception = some x)
    (hm : x.mode = .ignoring) : s.disableReception = s := by
  simp only [State.disableReception, hx, hm]

theorem State.disableReception_of_storing {s : State} {x : Reception} {r : Handle} (hx : s.line.reception = some x)
    (hm : x.mode = .storing r) :
    ∃ d : DeviceCounters, s.disableReception =
        { s with
          line := { s.line with reception := some { x with mode := .ignoring }, counters := d }
          pool := s.pool.dropRef r } ∧
      (s.Exhausted r → d = { s.line.counters with noCells := bump s.line.counters.noCells }) ∧
      (¬ s.Exhausted r → d = { s.line.counters with lineDisabled := bump s.line.counters.lineDisabled }) := by
  let t := s.setReception (some { x with mode := .ignoring })
  have ends : s.disableReception = t.settleReception r x.received .lineDisabled := by
    simp only [State.disableReception, hx, hm]
    rfl
  rw [ends]
  by_cases out : s.Exhausted r
  · obtain ⟨rec, hr, he⟩ := out
    refine ⟨{ s.line.counters with noCells := bump s.line.counters.noCells }, ?_, fun _ => rfl,
      fun no => absurd ⟨rec, hr, he⟩ no⟩
    rw [State.settleReception_of_exhausted (s := t) hr he, State.dropRef_eq]
    rfl
  · refine ⟨{ s.line.counters with lineDisabled := bump s.line.counters.lineDisabled }, ?_, fun yes => absurd yes out,
      fun _ => rfl⟩
    rw [State.settleReception_of_not_exhausted (s := t) (o := .lineDisabled) (fun rec hr he => out ⟨rec, hr, he⟩)
      (by decide), State.dropRef_eq]
    rfl

theorem State.disableReception_keeps (s : State) : { s.disableReception with line := s.line, pool := s.pool } = s := by
  rcases hx : s.line.reception with _ | x
  · rw [State.disableReception_of_idle hx]
  · cases hm : x.mode with
    | ignoring => rw [State.disableReception_of_ignoring hx hm]
    | storing r =>
      obtain ⟨d, he, -⟩ := State.disableReception_of_storing hx hm
      rw [he]

/-! ### The notices of an application -/

/-- The state of an application once its notices are raised, before any reception is ended. -/
def State.announced (s : State) (q : Proposal) : State :=
  let t := s.setAccord
    { s.accord with config := q.record, generation := s.accord.generation + 1, proposal := none }
  let u := t.notifyOutcome q .applied none
  u.notifyAll u.attachedHosts (.configApplied (s.accord.generation + 1))

theorem State.applyProposal_eq (s : State) (q : Proposal) :
    s.applyProposal q =
      if s.accord.config.lineEnable = true ∧ q.record.lineEnable = false then (s.announced q).disableReception
      else s.announced q := by
  simp only [State.applyProposal, State.announced, Bool.and_eq_true, Bool.not_eq_true']

theorem State.announced_accord (s : State) (q : Proposal) :
    (s.announced q).accord =
      { config := q.record, generation := s.accord.generation + 1, lastSerial := s.accord.lastSerial,
        proposal := none } := by
  simp [State.announced, State.setAccord]

theorem State.announced_keeps (s : State) (q : Proposal) :
    { s.announced q with accord := s.accord, hosts := s.hosts } = s := by
  simp [State.announced, State.setAccord]

theorem State.host_notify_setAccord (s : State) (a : Accord) (k : HostId) (r : Report) :
    ((s.setAccord a).notify k r).host k = (s.notify k r).host k :=
  State.host_notify_congr (s := s.setAccord a) (t := s) rfl rfl r

/-- The outcome to the proposer and the voters, then CONFIG_APPLIED to every attached host. -/
theorem State.host_announced (s : State) (q : Proposal) (k : HostId) :
    (s.announced q).host k =
      ((if k = q.proposer ∨ q.votes.get k ≠ none then s.notify k (.accordOutcome .applied q.serial none)
        else s).notify k (.configApplied (s.accord.generation + 1))).host k := by
  simp only [State.announced]
  rw [State.host_notifyAttached]
  refine State.host_notify_congr ?_ ?_ _
  · have nodup : (HostId.all.filter fun h => h = q.proposer || (q.votes.get h).isSome).Nodup :=
      List.Nodup.filter _ (by decide)
    have mem : k ∈ HostId.all.filter (fun h => h = q.proposer || (q.votes.get h).isSome) ↔
        (k = q.proposer ∨ q.votes.get k ≠ none) := by
      simp [HostId.mem_all, Option.isSome_iff_ne_none]
    rw [State.notifyOutcome, State.host_notifyAll nodup]
    simp only [mem]
    split
    · exact State.host_notify_setAccord ..
    · rfl
  · split <;> simp [State.stamp, State.setAccord]

theorem State.accord_applyProposal (s : State) (q : Proposal) :
    (s.applyProposal q).accord =
      { config := q.record, generation := s.accord.generation + 1, lastSerial := s.accord.lastSerial,
        proposal := none } := by
  rw [State.applyProposal_eq]
  split
  · exact (congrArg State.accord (s.announced q).disableReception_keeps :).trans (s.announced_accord q)
  · exact s.announced_accord q

/-- Settles O52: the notices, and the reception that a disabled line ends. -/
theorem applicationOfAProposal : Obligations.ApplicationOfAProposal := by
  unfold Obligations.ApplicationOfAProposal
  intro s q generation told
  have keeps := (s.announced q).disableReception_keeps
  have before := s.announced_keeps q
  have line : (s.announced q).line = s.line := (congrArg State.line before :)
  have pool : (s.announced q).pool = s.pool := (congrArg State.pool before :)
  refine ⟨_, rfl, s.accord_applyProposal q, fun k => ?_, ?_, fun stays => ?_, fun on off => ?_⟩
  · rw [State.applyProposal_eq]
    split
    · exact (congrArg (State.host · k) keeps :).trans (s.host_announced q k)
    · exact s.host_announced q k
  · rw [State.applyProposal_eq]
    split
    · have both := congrArg (fun u : State =>
        { u with accord := s.accord, hosts := s.hosts, line := s.line, pool := s.pool }) keeps
      exact (both :).trans (by rw [← line, ← pool]; exact before)
    · rw [← line, ← pool]
      exact before
  · rw [State.applyProposal_eq, if_neg (by rcases stays with e | e <;> simp [e])]
    exact ⟨line, pool⟩
  · rw [State.applyProposal_eq, if_pos ⟨on, off⟩]
    refine ⟨fun idle => ?_, fun x hx => ⟨fun hm => ?_, fun r rec hm hr => ?_⟩⟩
    · rw [State.disableReception_of_idle (by rw [line, idle])]
      exact ⟨line, pool⟩
    · rw [State.disableReception_of_ignoring (by rw [line, hx]) hm]
      exact ⟨line, pool⟩
    · obtain ⟨d, he, exhausted, plain⟩ := State.disableReception_of_storing (s := s.announced q) (by rw [line, hx]) hm
      have out : (s.announced q).Exhausted r ↔ rec.exhausted = some true := by
        simp [State.Exhausted, State.record, pool, show s.pool.records[r] = some rec from hr]
      rw [he, State.pool_dropRef, ← pool]
      refine ⟨rfl, ?_⟩
      split
      · next yes => simp only [exhausted (out.2 yes), line]
      · next no => simp only [plain (mt out.1 no), line]

end Sys2Proof.Machine
end

section
/-! Votes, and the ends of a proposal (R163 to R166). -/

namespace Sys2Proof.Machine

theorem State.proposalOf_none {s : State} {serial : Word16}
    (none : ∀ q : Proposal, s.accord.proposal = some q → q.serial ≠ serial) : s.proposalOf serial = Option.none := by
  cases hq : s.accord.proposal with
  | none => simp [State.proposalOf, hq]
  | some q => simp [State.proposalOf, hq, Option.filter, none q hq]

theorem State.proposalOf_some {s : State} {q : Proposal} (hq : s.accord.proposal = some q) :
    s.proposalOf q.serial = some q := by
  simp [State.proposalOf, hq, Option.filter]

/-- With one more vote endorsed, all are when no other is outstanding. -/
theorem Proposal.agreed_endorse {q : Proposal} {h : HostId} :
    ({ q with votes := q.votes.set h (some .endorsed) } : Proposal).agreed = true ↔
      ∀ k : HostId, k ≠ h → q.votes.get k ≠ some .outstanding := by
  simp only [Proposal.agreed, List.all_eq_true, HostId.mem_all, forall_true_left, decide_eq_true_eq, PerHost.get_set]
  refine forall_congr' fun k => ?_
  by_cases hk : k = h <;> simp [hk]

/-- Settles O51: each command by the pending proposal, the serial and the vote. -/
theorem votesAndEndsOfAProposal : Obligations.VotesAndEndsOfAProposal := by
  unfold Obligations.VotesAndEndsOfAProposal
  intro s h tag serial p endorse decline withdraw ended
  have serialAt : word16At p 0 = serial := word16At_word16Bytes_self serial
  refine ⟨fun ready => ⟨fun none => ?_, ?_⟩, fun runs => ⟨fun none => ?_, fun q hq h0 => ?_⟩⟩
  · have lost := State.proposalOf_none none
    have awake := ready.not_asleep
    refine ⟨ready.heard.exec_refused .endorse tag rfl nofun (st := .noProposal) ?_,
      ready.heard.exec_refused .decline tag rfl nofun (st := .noProposal) ?_,
      ready.heard.exec_refused .withdraw tag rfl nofun (st := .noProposal) ?_⟩
    · simp only [serve, endorseRequest, awake, serialAt, lost, Bool.false_eq_true, if_false]
    · simp only [serve, declineRequest, awake, serialAt, lost, Bool.false_eq_true, if_false]
    · simp only [serve, withdrawRequest, awake, serialAt, lost, Bool.false_eq_true, if_false, Option.filter_none]
  · rintro q hq rfl
    have found := State.proposalOf_some hq
    have awake := ready.not_asleep
    refine ⟨fun hv => ⟨ready.heard.exec_refused .endorse tag rfl nofun (st := .notVoter) ?_,
        ready.heard.exec_refused .decline tag rfl nofun (st := .notVoter) ?_⟩,
      fun hv => ⟨ready.heard.exec_refused .endorse tag rfl nofun (st := .alreadyVoted) ?_,
        ready.heard.exec_refused .decline tag rfl nofun (st := .alreadyVoted) ?_⟩, ?_,
      fun other => ready.heard.exec_refused .withdraw tag rfl nofun (st := .noProposal) ?_,
      fun own => ready.heard.exec_accepted .withdraw tag rfl nofun ?_⟩
    · simp only [serve, endorseRequest, awake, serialAt, found, hv, Bool.false_eq_true, if_false]
    · simp only [serve, declineRequest, awake, serialAt, found, hv, Bool.false_eq_true, if_false]
    · simp only [serve, endorseRequest, awake, serialAt, found, hv, Bool.false_eq_true, if_false]
    · simp only [serve, declineRequest, awake, serialAt, found, hv, Bool.false_eq_true, if_false]
    · intro hv r t
      have votes : serve h .endorse p s =
          if r.agreed then accepted (t.applyProposal r) [1] else accepted t [0] := by
        simp only [serve, endorseRequest, awake, serialAt, found, hv, Bool.false_eq_true, if_false]
        rfl
      refine ⟨fun ⟨k, hk, out⟩ => ready.heard.exec_accepted .endorse tag rfl nofun (votes.trans (if_neg fun all => ?_)),
        fun none => ready.heard.exec_accepted .endorse tag rfl nofun
          (votes.trans (if_pos (Proposal.agreed_endorse.2 none))),
        ready.heard.exec_accepted .decline tag rfl nofun ?_⟩
      · exact Proposal.agreed_endorse.1 all k hk out
      · simp only [serve, declineRequest, awake, serialAt, found, hv, Bool.false_eq_true, if_false]
        rfl
    · simp only [serve, withdrawRequest, awake, serialAt, found, Option.filter, other, decide_false, Bool.false_eq_true,
        if_false]
    · simp only [serve, withdrawRequest, awake, serialAt, found, Option.filter, own, decide_true, Bool.false_eq_true,
        if_false, if_true]
      rfl
  · refine (running_of_runs runs accordWindowExpired).trans ?_
    cases hq : s.accord.proposal with
    | none => simp only [accordWindowExpired, hq]
    | some q => simp only [accordWindowExpired, hq, none q hq, if_false]
  · refine (running_of_runs runs accordWindowExpired).trans ?_
    simp only [accordWindowExpired, hq, h0, if_true]
    rfl

end Sys2Proof.Machine
end

section
/-! PROPOSE (R161, R162). -/

namespace Sys2Proof.Machine

/-! ### The ranges of a record's bytes (check 4 of R161) -/

theorem exists_perHost {P : HostId → Nat → Prop} (all : ∀ h, ∃ n, P h n) : ∃ v : PerHost Nat, ∀ h, P h (v.get h) := by
  choose f hf using all
  refine ⟨⟨f .h0, f .h1, f .h2, f .h3⟩, fun h => ?_⟩
  cases h <;> exact hf _

/-- Twenty bytes read as no record exactly when a field lies out of its range. -/
theorem configRecordOf_none {b : List Byte} :
    configRecordOf b = none ↔
      3 < (byteAt b 0).toNat ∨ (byteAt b 2).toNat = 0 ∨ (byteAt b 4).toNat = 0 ∨
      unknownPolicyOf (byteAt b 5) (byteAt b 6) = none ∨ 1 < (byteAt b 7).toNat ∨
      (∃ h : HostId, (byteAt b (8 + h.toNat * 1)).toNat = 0 ∨ 64 < (byteAt b (8 + h.toNat * 1)).toNat) ∨
      ∃ h : HostId, (word16At b (12 + h.toNat * 2)).toNat < 12 ∨ 384 < (word16At b (12 + h.toNat * 2)).toNat := by
  have small (x : Byte) : x.toNat ≤ 255 := by have := x.isLt; omega
  constructor
  · intro none
    by_contra good
    simp only [not_or, not_exists] at good
    obtain ⟨g0, g2, g4, g5, g7, g8, g12⟩ := good
    obtain ⟨period, h0⟩ := Option.ne_none_iff_exists'.1 (mt tickPeriodOf_none.1 g0)
    obtain ⟨unknown, h5⟩ := Option.ne_none_iff_exists'.1 g5
    obtain ⟨enable, h7⟩ := Option.ne_none_iff_exists'.1 (mt boolOf_none.1 g7)
    obtain ⟨limit, h8⟩ := exists_perHost (P := fun h n => rangeOf 1 64 (byteAt b (8 + h.toNat * 1)) = some n)
      fun h => ⟨_, rangeOf_some.2 ⟨rfl, by have := g8 h; omega, by have := g8 h; omega⟩⟩
    obtain ⟨quota, h12⟩ := exists_perHost (P := fun h n => range16Of 12 384 (word16At b (12 + h.toNat * 2)) = some n)
      fun h => ⟨_, range16Of_some.2 ⟨rfl, by have := g12 h; omega, by have := g12 h; omega⟩⟩
    have read := configRecordOf_some (b := b)
      (r := ⟨period, (byteAt b 1).toNat, (byteAt b 2).toNat, (byteAt b 3).toNat, (byteAt b 4).toNat, unknown, enable,
        limit, quota⟩)
    have reads := read.2 ⟨h0, rfl, rangeOf_some.2 ⟨rfl, Nat.pos_of_ne_zero g2, small _⟩, rfl,
      rangeOf_some.2 ⟨rfl, Nat.pos_of_ne_zero g4, small _⟩, h5,
      h7, h8, h12⟩
    exact nomatch none.symm.trans reads
  · intro bad
    rw [Option.eq_none_iff_forall_ne_some]
    intro r hr
    obtain ⟨h0, -, h2, -, h4, h5, h7, h8, h12⟩ := configRecordOf_some.1 hr
    simp only [rangeOf_some, range16Of_some] at h2 h4 h8 h12
    rcases bad with e | e | e | e | e | ⟨h, e⟩ | ⟨h, e⟩
    · exact nomatch (tickPeriodOf_none.2 e).symm.trans h0
    · omega
    · omega
    · exact nomatch e.symm.trans h5
    · exact nomatch (boolOf_none.2 e).symm.trans h7
    · have := h8 h
      omega
    · have := h12 h
      omega

theorem exists_limit_place {P : Nat → Prop} :
    (∃ k, 8 ≤ k ∧ k ≤ 11 ∧ P k) ↔ ∃ h : HostId, P (8 + h.toNat * 1) := by
  constructor
  · rintro ⟨k, low, high, hk⟩
    obtain rfl | rfl | rfl | rfl : k = 8 ∨ k = 9 ∨ k = 10 ∨ k = 11 := by omega
    exacts [⟨.h0, hk⟩, ⟨.h1, hk⟩, ⟨.h2, hk⟩, ⟨.h3, hk⟩]
  · rintro ⟨h, hk⟩
    exact ⟨_, Nat.le_add_right .., by cases h <;> decide, hk⟩

theorem exists_quota_place {P : Nat → Prop} :
    (∃ k ∈ [12, 14, 16, 18], P k) ↔ ∃ h : HostId, P (12 + h.toNat * 2) := by
  constructor
  · rintro ⟨k, mem, hk⟩
    simp only [List.mem_cons, List.not_mem_nil, or_false] at mem
    obtain rfl | rfl | rfl | rfl := mem
    exacts [⟨.h0, hk⟩, ⟨.h1, hk⟩, ⟨.h2, hk⟩, ⟨.h3, hk⟩]
  · rintro ⟨h, hk⟩
    exact ⟨_, by cases h <;> decide, hk⟩

/-! ### The proposal formed (R162) -/

theorem State.voters_newProposal (s : State) (h : HostId) (r : ConfigRecord) :
    (s.newProposal h r).voters = HostId.all.filter (fun k => k ≠ h && s.attached k) := by
  refine List.filter_congr fun k _ => ?_
  cases k <;> simp only [State.newProposal, PerHost.get] <;> split <;> simp_all

/-- Settles O50: the checks in their order, and an accepted proposal by whether it has a voter. -/
theorem proposeFormsOrAppliesAProposal : Obligations.ProposeFormsOrAppliesAProposal := by
  unfold Obligations.ProposeFormsOrAppliesAProposal
  intro s h tag base b ready hb p out field quota bad serial generation
  have awake := ready.not_asleep
  have hbase : word16At p 0 = base := word16At_word16Bytes ..
  have hdrop : p.drop 2 = b := rfl
  have length : p.length = 22 := by simp [p, hb]
  have bad_iff : bad ↔ configRecordOf b = none := by
    rw [configRecordOf_none, unknownPolicyOf_none, ← exists_limit_place (P := fun k => field k = 0 ∨ 64 < field k),
      ← exists_quota_place (P := fun k => quota k < 12 ∨ 384 < quota k)]
    simp only [bad, field, quota, or_assoc]
  have admits : Command.propose.admitsLength p.length = true := by
    rw [length]
    rfl
  refine ⟨fun busy => ?_, fun idle other => ?_, fun idle same spoilt => ?_, fun good => ?_, ?_⟩
  · refine ready.heard.exec_refused .propose tag admits nofun (st := .accordBusy) ?_
    simp only [serve, proposeRequest, awake, Option.isSome_iff_ne_none.2 busy, Bool.false_eq_true, if_false, if_true]
  · refine ready.heard.exec_reply .propose tag admits nofun (r := ⟨.stale, word16Bytes generation⟩) ?_
    simp only [serve, proposeRequest, awake, idle, Option.isSome_none, Bool.false_eq_true, if_false, hbase]
    exact if_pos other
  · refine ready.heard.exec_refused .propose tag admits nofun (st := .badValue) ?_
    simp only [serve, proposeRequest, awake, idle, Option.isSome_none, Bool.false_eq_true, if_false, hbase, same, hdrop,
      bad_iff.1 spoilt, generation, ne_eq, not_true_eq_false]
  · obtain ⟨record, hr⟩ := Option.ne_none_iff_exists'.1 (mt bad_iff.2 good)
    obtain ⟨law, bytes⟩ := configRecordBytes_of_some hb hr
    exact ⟨record, law, bytes.symm⟩
  · intro record idle same law bytes voters vote q t
    have read : configRecordOf b = some record := bytes ▸ configRecordOf_configRecordBytes law
    have mem (k : HostId) : k ∈ voters ↔ k ≠ h ∧ s.attached k = true := by
      simp [voters, List.mem_filter, show k ∈ [HostId.h0, .h1, .h2, .h3] from HostId.mem_all k]
    have votes (k : HostId) : vote k = if k ≠ h ∧ s.attached k = true then some .outstanding else none :=
      if_congr (mem k) rfl rfl
    have formed : s.newProposal h record = q := by
      simp only [q, votes]
      rfl
    have asked : q.voters = voters := formed ▸ s.voters_newProposal h record
    have answers : serve h .propose p s =
        if q.voters.isEmpty then
          accepted (t.applyProposal q) (word16Bytes serial ++ [1] ++ word16Bytes (t.applyProposal q).accord.generation)
        else accepted (t.notifyAll q.voters (.accordRequest h serial)) (word16Bytes serial ++ [0]) := by
      simp only [serve, proposeRequest, awake, idle, Option.isSome_none, Bool.false_eq_true, if_false, hbase, same,
        hdrop, read, generation, ne_eq, not_true_eq_false, formed]
      rfl
    rw [asked] at answers
    refine ⟨fun none => ready.heard.exec_accepted .propose tag admits nofun (answers.trans ?_),
      fun some => ready.heard.exec_accepted .propose tag admits nofun (answers.trans (if_neg ?_))⟩
    · rw [if_pos (List.isEmpty_iff.2 none), State.accord_applyProposal]
    · exact mt List.isEmpty_iff.1 some

end Sys2Proof.Machine
end

section
/-! The laws at reset, and the codes and sizes (chapter 11). -/

namespace Sys2Proof.Machine

/-! ### The laws at reset -/

@[simp] theorem State.proposal_reset : State.reset.accord.proposal = none := rfl

@[simp] theorem State.path_reset : State.reset.arbiter.path = none := rfl

@[simp] theorem State.reception_reset : State.reset.line.reception = none := rfl

theorem tableLaw_reset : State.reset.TableLaw := by
  refine ⟨fun i => ?_, fun i j held => ?_⟩
  · rw [State.entry_reset]
    trivial
  · rw [State.entry_reset] at held
    exact absurd rfl held

theorem accordLaw_reset : State.reset.AccordLaw := by
  have idle {P : Proposal → Prop} : ∀ q ∈ State.reset.accord.proposal, P q := by simp
  refine ⟨⟨?_, ?_, ?_, ?_, fun h => ?_, fun h => ?_⟩, idle, idle, idle, idle, idle, idle⟩
  case refine_5 | refine_6 => cases h <;> decide
  all_goals decide

theorem count_finRange {n : Nat} (i : Fin n) : (List.finRange n).count i = 1 :=
  List.count_eq_one_of_mem (List.nodup_finRange n) (List.mem_finRange i)

theorem poolLaw_reset : State.reset.PoolLaw := by
  refine ⟨fun c => ?_, fun r => ?_⟩
  · have chained : ((List.finRange Config.recordCount).map fun r =>
        (chainOf (State.reset.record r)).count c).sum = 0 := by
      refine List.sum_eq_zero fun n hn => ?_
      obtain ⟨r, -, rfl⟩ := List.mem_map.1 hn
      rw [State.record_reset]
      rfl
    rw [chained, Nat.add_zero]
    simp only [State.reset, Pool.reset]
    exact count_finRange c
  · rw [State.record_reset, if_pos rfl]
    simp only [State.reset, Pool.reset]
    exact count_finRange r

theorem referenceLaw_reset : State.reset.ReferenceLaw := by
  intro r
  rw [State.record_reset]
  have positions (h : HostId) : State.reset.positions r h = 0 := by simp [State.positions, HostCtx.reset]
  simp [State.named, HostId.all, positions, State.receivesInto, State.onPath]

theorem chargeLaw_reset : State.reset.ChargeLaw := by
  refine ⟨fun h => ?_, fun r h receives => by simp [State.receivesInto] at receives⟩
  simp [State.waitingCells, HostCtx.reset]

theorem capacityLaw_reset : State.reset.CapacityLaw := by
  constructor
  case place => simp
  all_goals
    intro h
    simp [HostCtx.reset]

theorem heldLaw_reset : State.reset.HeldLaw := by
  intro h awake
  rw [State.Awake, State.host_reset] at awake
  exact awake.elim nofun nofun

theorem reachLaw_reset : State.reset.ReachLaw := by
  constructor <;> intro h <;> simp [State.asleep, State.attached, HostCtx.reset, HostCtx.attached, Reach.isAsleep]

theorem attachmentLaw_reset : State.reset.AttachmentLaw := by
  constructor
  case owner =>
    intro h _ i
    simp [State.ownedBy]
  case member | target =>
    intro h _ i
    simp [Entry.group?, Entry.claim?]
  case proposal | path => simp
  case lists | transmit =>
    intro h _
    simp [HostCtx.reset]

theorem portLaw_reset : State.reset.PortLaw := by
  constructor
  case resetting => exact fun lasts => absurd rfl lasts
  all_goals
    intro h
    simp [Port.reset]

/-- Settles O3: the laws one by one. -/
theorem resetMeetsEveryLaw : Obligations.ResetMeetsEveryLaw :=
  ⟨tableLaw_reset, accordLaw_reset, ⟨List.Pairwise.nil, nofun⟩, poolLaw_reset, referenceLaw_reset, chargeLaw_reset,
    capacityLaw_reset, heldLaw_reset, reachLaw_reset, attachmentLaw_reset, portLaw_reset⟩

/-! ### The codes and the sizes -/

/-- The codes of all commands. -/
def commandCodes : List Nat := Command.all.map (fun c => c.code.toNat)

theorem isSome_ofCode {b : Byte} : (Command.ofCode b).isSome = true ↔ b.toNat ∈ commandCodes := by
  constructor
  · intro named
    obtain ⟨c, hc⟩ := Option.isSome_iff_exists.1 named
    rw [Command.code_of_ofCode hc]
    cases c <;> decide
  · intro mem
    obtain ⟨c, -, hc⟩ := List.mem_map.1 mem
    rw [← BitVec.eq_of_toNat_eq hc, Command.ofCode_code]
    rfl

theorem Command.admitsLength_iff {c : Command} (hc : c ≠ .submit) {m : Nat} :
    c.admitsLength m = true ↔
      (c.code.toNat, m) ∈
        [(0x01, 0), (0x02, 0), (0x03, 0), (0x04, 0), (0x05, 2), (0x06, 0), (0x07, 0), (0x08, 0), (0x10, 10), (0x11, 3),
          (0x12, 3), (0x13, 4), (0x14, 6), (0x15, 6), (0x16, 4), (0x17, 3), (0x18, 3), (0x19, 3), (0x1A, 3), (0x1B, 7),
          (0x1C, 0), (0x20, 0), (0x21, 0), (0x30, 0), (0x31, 2), (0x32, 0), (0x38, 0), (0x39, 3), (0x3A, 0), (0x3B, 0),
          (0x3C, 7), (0x41, 0), (0x50, 0), (0x51, 22), (0x52, 2), (0x53, 2), (0x54, 2)] := by
  cases c
  case submit => exact absurd rfl hc
  all_goals simp [Command.admitsLength, Command.code]

theorem length_entryImage (i : Index) (e : Entry) : (entryImage i e).length = 31 := by
  rcases e with ⟨g, _ | c | g⟩ <;> rfl

theorem length_refBytes (e : Option EntryRef) : (refBytes e).length = 3 := by cases e <;> rfl

theorem length_noticeBytes (n : Notice) : (noticeBytes n).length = 10 := by
  have detail : n.report.detail.length = 4 := by cases n.report <;> rfl
  cases he : n.report.entry with
  | none => simp [noticeBytes_of_no_entry he, detail]
  | some e => simp [noticeBytes_of_entry he, detail]

theorem length_configRecordBytes (r : ConfigRecord) : (configRecordBytes r).length = 20 := by
  obtain ⟨p, d, hu⟩ := unknownPolicyBytes_eq r.unknown
  rw [configRecordBytes_eq hu]
  rfl

theorem length_accordBytes (a : Accord) : (accordBytes a).length = if a.proposal = none then 25 else 57 := by
  cases hq : a.proposal <;> simp [accordBytes, proposalBytes, length_configRecordBytes, hq]

/-- Settles O9: the codes by the list of all commands, the sizes structure by structure. -/
theorem commandCodesAndStructureSizes : Obligations.CommandCodesAndStructureSizes :=
  ⟨Command.ofCode_code, fun _ _ hc => Command.admitsLength_iff hc, fun _ => decide_eq_true_iff,
    fun _ => isSome_ofCode, rfl, ⟨rfl, rfl, rfl⟩, length_entryImage,
    fun rec _ _ _ => by simp [descriptorBytes, length_refBytes],
    length_noticeBytes, fun c => by simp [wakeBlock, wakeRecordBytes, length_refBytes, zeroWord],
    fun _ => rfl, length_accordBytes, fun _ => rfl, fun _ => rfl⟩

end Sys2Proof.Machine
end

section
/-! The frame check as a remainder (R88), and the four bytes a reception keeps back (R87). -/

open Polynomial

namespace Sys2Proof.Machine

/-! ### Bits as the coefficients of a polynomial -/

/-- The coefficient of one bit. -/
noncomputable def bitCoeff (b : Bool) : (ZMod 2)[X] := if b then 1 else 0

/-- Bits as the coefficients of a polynomial, the highest term first (R88). -/
noncomputable def bitPoly (l : List Bool) : (ZMod 2)[X] := l.foldl (fun p b => p * X + bitCoeff b) 0

theorem bitCoeff_xor (a b : Bool) : bitCoeff (a ^^ b) = bitCoeff a + bitCoeff b := by
  have two : (1 + 1 : (ZMod 2)[X]) = 0 := CharTwo.add_self_eq_zero 1
  cases a <;> cases b <;> simp [bitCoeff, two]

theorem bitPoly_snoc (l : List Bool) (b : Bool) : bitPoly (l ++ [b]) = bitPoly l * X + bitCoeff b := by
  simp only [bitPoly, List.foldl_append, List.foldl_cons, List.foldl_nil]

theorem bitPoly_append (l m : List Bool) : bitPoly (l ++ m) = bitPoly l * X ^ m.length + bitPoly m := by
  induction m using List.reverseRecOn with
  | nil => simp [bitPoly]
  | append_singleton m b ih =>
    rw [← List.append_assoc, bitPoly_snoc, bitPoly_snoc, ih, List.length_append, List.length_singleton, pow_succ]
    ring

/-- Bits added place by place. -/
theorem bitPoly_map_xor {α : Type} (l : List α) (f g : α → Bool) :
    bitPoly (l.map fun a => f a ^^ g a) = bitPoly (l.map f) + bitPoly (l.map g) := by
  induction l using List.reverseRecOn with
  | nil => simp [bitPoly]
  | append_singleton l a ih =>
    simp only [List.map_append, List.map_cons, List.map_nil, bitPoly_snoc, ih, bitCoeff_xor]
    ring

/-- Bits complemented. -/
theorem bitPoly_map_not (l : List Bool) :
    bitPoly (l.map (!·)) = bitPoly l + bitPoly (List.replicate l.length true) := by
  have flips := bitPoly_map_xor l id (fun _ => true)
  simpa [List.map_const'] using flips

/-! ### The check register -/

/-- The register's bits, that of x^31 first. -/
def registerBits (r : Word32) : List Bool := (List.range 32).map (fun j => r.getLsbD (31 - j))

/-- The generator of R88. -/
noncomputable def checkGenerator : (ZMod 2)[X] :=
  X ^ 32 + X ^ 26 + X ^ 23 + X ^ 22 + X ^ 16 + X ^ 12 + X ^ 11 + X ^ 10 + X ^ 8 + X ^ 7 + X ^ 5 + X ^ 4 + X ^ 2 + X + 1

theorem registerBits_generator :
    bitPoly (registerBits crcGenerator) = checkGenerator + X ^ 32 := by
  have bits : registerBits crcGenerator =
      [false, false, false, false, false, true, false, false, true, true, false, false, false, false, false, true,
        false, false, false, true, true, true, false, true, true, false, true, true, false, true, true, true] := by
    decide
  have two : (X ^ 32 + X ^ 32 : (ZMod 2)[X]) = 0 := CharTwo.add_self_eq_zero _
  rw [bits, checkGenerator]
  simp only [bitPoly, List.foldl_cons, List.foldl_nil, bitCoeff, if_true, if_false, Bool.false_eq_true]
  linear_combination -two

theorem registerBits_start : registerBits crcStart = List.replicate 32 true := by decide

theorem registerBits_xor (a b : Word32) :
    bitPoly (registerBits (a ^^^ b)) = bitPoly (registerBits a) + bitPoly (registerBits b) := by
  simp only [registerBits, BitVec.getLsbD_xor]
  exact bitPoly_map_xor ..

/-- A register shifted by one loses its bit of x^31. -/
theorem registerBits_shift (r : Word32) :
    bitPoly (registerBits r) * X = bitCoeff r.msb * X ^ 32 + bitPoly (registerBits (r <<< 1)) := by
  have split : registerBits r = [r.msb] ++ (List.range 31).map (fun j => r.getLsbD (30 - j)) := by
    rw [registerBits, List.range_succ_eq_map, List.map_cons, List.map_map]
    rfl
  have shifted : registerBits (r <<< 1) = (List.range 31).map (fun j => r.getLsbD (30 - j)) ++ [false] := by
    rw [registerBits, List.range_succ, List.map_append]
    refine congrArg₂ _ (List.map_congr_left fun j hj => ?_) (by simp)
    have low : j < 31 := List.mem_range.1 hj
    rw [BitVec.getLsbD_shiftLeft]
    simp [show ¬ 31 - j < 1 by omega, show 31 - j < 32 by omega, show 31 - j - 1 = 30 - j by omega]
  rw [split, shifted, bitPoly_append, bitPoly_snoc]
  simp only [List.length_map, List.length_range, bitPoly, List.foldl_cons, List.foldl_nil, bitCoeff, Bool.false_eq_true,
    if_false]
  ring

/-- One bit: the remainder times x, with the bit at x^32, up to a multiple of the generator. -/
theorem registerBits_crcBit (r : Word32) (b : Bool) :
    bitPoly (registerBits (crcBit r b)) =
      bitPoly (registerBits r) * X + bitCoeff b * X ^ 32 + bitCoeff (r.msb ^^ b) * checkGenerator := by
  have two (p : (ZMod 2)[X]) : p + p = 0 := CharTwo.add_self_eq_zero p
  have shift := registerBits_shift r
  rw [shift, bitCoeff_xor]
  rcases hb : (r.msb != b) with _ | _
  · obtain rfl : r.msb = b := by simpa using hb
    have stays : crcBit r r.msb = r <<< 1 := by simp [crcBit]
    rw [stays, two (bitCoeff r.msb)]
    linear_combination -two (bitCoeff r.msb * X ^ 32)
  · have flips : crcBit r b = (r <<< 1) ^^^ crcGenerator := by simp [crcBit, hb]
    have one : bitCoeff r.msb + bitCoeff b = 1 := by
      rw [← bitCoeff_xor, show (r.msb ^^ b) = true from hb]
      rfl
    rw [flips, registerBits_xor, registerBits_generator]
    linear_combination -(X ^ 32 + checkGenerator) * one

/-- A run of bits: the register's polynomial is that of the message times x^32, up to a multiple of the generator. -/
theorem exists_registerBits_foldl (l : List Bool) (r : Word32) :
    ∃ q : (ZMod 2)[X], bitPoly (registerBits (l.foldl crcBit r)) =
      bitPoly (registerBits r) * X ^ l.length + bitPoly l * X ^ 32 + q * checkGenerator := by
  induction l using List.reverseRecOn with
  | nil => exact ⟨0, by simp [bitPoly]⟩
  | append_singleton l b ih =>
    obtain ⟨q, hq⟩ := ih
    refine ⟨q * X + bitCoeff ((l.foldl crcBit r).msb ^^ b), ?_⟩
    rw [List.foldl_append, List.foldl_cons, List.foldl_nil, registerBits_crcBit, hq, bitPoly_snoc, List.length_append,
      List.length_singleton]
    ring

/-! ### Bytes -/

/-- The bits of bytes, each from bit 0 to bit 7. -/
def bitsOf (l : List Byte) : List Bool := l.flatMap (fun b => (List.range 8).map (fun k => b.getLsbD k))

theorem length_bitsOf (l : List Byte) : (bitsOf l).length = 8 * l.length := by
  simp [bitsOf, List.length_flatMap, Nat.mul_comm]

theorem foldl_crcByte (l : List Byte) (r : Word32) : l.foldl crcByte r = (bitsOf l).foldl crcBit r := by
  rw [bitsOf, List.foldl_flatMap]
  refine congrArg (fun f => List.foldl f r l) (funext₂ fun r b => ?_)
  rw [List.foldl_map]
  rfl

theorem getLsbD_byteOfBits (f : Nat → Bool) {k : Nat} (hk : k < 8) : (byteOfBits f).getLsbD k = f k := by
  have upto (n : Nat) (hn : n ≤ 8) :
      ((List.range n).foldl (fun b k => if f k then b ||| (1#8 <<< k) else b) 0).getLsbD k =
        (decide (k < n) && f k) := by
    induction n with
    | zero => simp
    | succ n ih =>
      rw [List.range_succ, List.foldl_append, List.foldl_cons, List.foldl_nil]
      have bit : (1#8 <<< n).getLsbD k = decide (k = n) := by
        rw [Bool.eq_iff_iff]
        simp [hk]
        omega
      have before := ih (by omega)
      split
      · next yes =>
        rw [BitVec.getLsbD_or, before, bit]
        by_cases e : k = n
        · subst e
          simp [yes]
        · simp [e, show k < n + 1 ↔ k < n by omega]
      · next no =>
        rw [before]
        by_cases e : k = n
        · subst e
          simp [no]
        · simp [show k < n + 1 ↔ k < n by omega]
  rw [byteOfBits, upto 8 (Nat.le_refl 8)]
  simp [hk]

/-- The complemented bits of the check bytes are the register's. -/
theorem bitsOf_crcBytes (r : Word32) : (bitsOf (crcBytes r)).map (!·) = registerBits r := by
  have byteBits (i : Nat) :
      ((List.range 8).map fun k => (byteOfBits fun k => !r.getLsbD (31 - 8 * i - k)).getLsbD k).map (!·) =
        (List.range 8).map (fun k => r.getLsbD (31 - 8 * i - k)) := by
    rw [List.map_map]
    refine List.map_congr_left fun k hk => ?_
    simp [getLsbD_byteOfBits _ (List.mem_range.1 hk)]
  rw [bitsOf, crcBytes, List.flatMap_map, List.map_flatMap]
  simp only [byteBits]
  rfl

/-- The frame check is the remainder of R88. -/
theorem exists_frameCheck_remainder {frame : List Byte} (long : 4 ≤ frame.length) :
    ∃ quotient : (ZMod 2)[X],
      bitPoly (((bitsOf frame).take 32).map (!·) ++ (bitsOf frame).drop 32) * X ^ 32 =
        quotient * checkGenerator + bitPoly ((bitsOf (frameCheck frame)).map (!·)) := by
  obtain ⟨q, hq⟩ := exists_registerBits_foldl (bitsOf frame) crcStart
  have bits : 32 ≤ (bitsOf frame).length := by rw [length_bitsOf]; omega
  have two (p : (ZMod 2)[X]) : p + p = 0 := CharTwo.add_self_eq_zero p
  have whole : bitPoly (bitsOf frame) =
      bitPoly ((bitsOf frame).take 32) * X ^ ((bitsOf frame).length - 32) + bitPoly ((bitsOf frame).drop 32) := by
    rw [← List.length_drop, ← bitPoly_append, List.take_append_drop]
  have power : (X : (ZMod 2)[X]) ^ (bitsOf frame).length = X ^ ((bitsOf frame).length - 32) * X ^ 32 := by
    rw [← pow_add, Nat.sub_add_cancel bits]
  refine ⟨q, ?_⟩
  rw [frameCheck, bitsOf_crcBytes, foldl_crcByte, hq, registerBits_start, bitPoly_append, bitPoly_map_not,
    List.length_take, Nat.min_eq_left bits, List.length_drop, power, whole]
  linear_combination -two (q * checkGenerator)

end Sys2Proof.Machine
end

section
/-! A frame's bytes in a reception (R65, R66, R72, R86 to R88). -/

namespace Sys2Proof.Machine

/-! ### The four bytes kept back -/

/-- A reception that has stored some bytes and keeps the last ones back. -/
def Reception.holding (m : ReceptionMode) (stored recent : List Byte) : Reception :=
  ⟨m, stored.length + recent.length, false, recent, stored.foldl crcByte crcStart⟩

theorem Reception.push_holding_of_few (m : ReceptionMode) {recent : List Byte} (few : recent.length < 4) (b : Byte) :
    ((Reception.holding m [] recent).push b).1 = .holding m [] (recent ++ [b]) := by
  rw [Reception.push_of_few (x := Reception.holding m [] recent) few]
  simp [Reception.holding]

theorem Reception.push_holding_of_full (m : ReceptionMode) (stored : List Byte) (e : Byte) {rest : List Byte}
    (full : rest.length = 3) (b : Byte) :
    ((Reception.holding m stored (e :: rest)).push b).1 = .holding m (stored ++ [e]) (rest ++ [b]) := by
  rw [Reception.push_of_full (x := Reception.holding m stored (e :: rest)) rfl full]
  simp only [Reception.holding, List.length_append, List.length_cons, List.length_nil, List.foldl_append,
    List.foldl_cons, List.foldl_nil]
  congr 1
  omega

/-- What holds at a frame's start, and still holds as each byte arrives, holds at its end, with its last four bytes kept
back. -/
theorem kept_back_induction {P : List Byte → List Byte → Prop} (start : P [] [])
    (few : ∀ (recent : List Byte) (b : Byte), recent.length < 4 → P [] recent → P [] (recent ++ [b]))
    (full : ∀ (stored : List Byte) (e : Byte) (rest : List Byte) (b : Byte), rest.length = 3 → P stored (e :: rest) →
      P (stored ++ [e]) (rest ++ [b]))
    (frame : List Byte) {tail : List Byte} (four : tail.length = 4) : P frame tail := by
  have reach (l : List Byte) : ∃ stored recent : List Byte, stored ++ recent = l ∧ P stored recent ∧
      (recent.length = 4 ∨ (stored = [] ∧ recent.length < 4)) := by
    induction l using List.reverseRecOn with
    | nil => exact ⟨[], [], rfl, start, .inr ⟨rfl, by decide⟩⟩
    | append_singleton l b ih =>
      obtain ⟨stored, recent, rfl, holds, kept | ⟨rfl, short⟩⟩ := ih
      · match recent, kept with
        | e :: rest, kept =>
          have three : rest.length = 3 := Nat.succ.inj kept
          exact ⟨stored ++ [e], rest ++ [b], by simp, full stored e rest b three holds, .inl (by simp [three])⟩
      · refine ⟨[], recent ++ [b], by simp, few recent b short holds, ?_⟩
        rw [List.length_append, List.length_singleton]
        exact (Nat.lt_or_eq_of_le short).elim (fun lt => .inr ⟨rfl, lt⟩) .inl
  obtain ⟨stored, recent, whole, holds, kept⟩ := reach (frame ++ tail)
  have four' : recent.length = 4 := by
    rcases kept with kept | ⟨rfl, short⟩
    · exact kept
    · have := congrArg List.length whole
      simp only [List.length_append, List.length_nil] at this
      omega
  obtain ⟨rfl, rfl⟩ := List.append_inj' whole (four'.trans four.symm)
  exact holds

/-- Settles O42: the bytes counted and kept back, the outcome by their number and their check, and the check as the
remainder of R88. -/
theorem receptionJudgesTheFrameCheck : Obligations.ReceptionJudgesTheFrameCheck := by
  unfold Obligations.ReceptionJudgesTheFrameCheck
  intro m frame tail four x
  have counted : x = .holding m frame tail := by
    refine kept_back_induction
      (P := fun stored recent => (stored ++ recent).foldl (fun (x : Reception) b => (x.push b).1)
        ⟨m, 0, false, [], crcStart⟩ = .holding m stored recent) rfl (fun recent b few ih => ?_)
      (fun stored e rest b full ih => ?_) frame four
    · rw [← List.append_assoc, List.foldl_append, ih]
      exact Reception.push_holding_of_few m few b
    · rw [show (stored ++ [e]) ++ (rest ++ [b]) = (stored ++ e :: rest) ++ [b] by simp, List.foldl_append, ih]
      exact Reception.push_holding_of_full m stored e full b
  have received : x.received = frame.length + 4 := by rw [counted, ← four]; rfl
  have clean : x.errorSeen = false := by rw [counted]; rfl
  have recent : x.recent = tail := by rw [counted]; rfl
  have check : crcBytes x.check = frameCheck frame := by rw [counted]; rfl
  have judged (low : 60 ≤ frame.length) (high : frame.length ≤ 1514) :
      x.outcome = if tail = frameCheck frame then .good else .badCheck := by
    rw [Reception.outcome_of_length (by omega) (by omega), clean, check, recent]
    by_cases same : tail = frameCheck frame <;> simp [same, eq_comm]
  have lengths (o : RxOutcome) (ho : o = .good ∨ o = .badCheck) (hx : x.outcome = o) :
      60 ≤ frame.length ∧ frame.length ≤ 1514 := by
    refine ⟨not_lt.1 fun short => ?_, not_lt.1 fun long => ?_⟩
    · rw [Reception.outcome_of_short (by omega)] at hx
      rcases ho with rfl | rfl <;> exact nomatch hx
    · rw [Reception.outcome_of_long (by omega)] at hx
      rcases ho with rfl | rfl <;> exact nomatch hx
  refine ⟨counted.trans (by rw [Reception.holding, four]; rfl), ⟨fun good => ?_, fun ⟨low, high, same⟩ => ?_⟩,
    ⟨fun bad => ?_, fun ⟨low, high, other⟩ => ?_⟩, fun long => ⟨rfl, exists_frameCheck_remainder long⟩⟩
  · obtain ⟨low, high⟩ := lengths _ (.inl rfl) good
    refine ⟨low, high, ?_⟩
    by_contra other
    rw [judged low high, if_neg other] at good
    exact nomatch good
  · rw [judged low high, if_pos same]
  · obtain ⟨low, high⟩ := lengths _ (.inr rfl) bad
    refine ⟨low, high, fun same => ?_⟩
    rw [judged low high, if_pos same] at bad
    exact nomatch bad
  · rw [judged low high, if_neg other]

end Sys2Proof.Machine
end

section
/-! A frame received whole (R65, R66, R72, R86, R87). -/

namespace Sys2Proof.Machine

/-! ### Bytes written one by one -/

theorem writeChain_snoc (m : List Host.Cell) (chain : List CellId) (bs : List Byte) (b : Byte) (k : Nat) :
    writeChain m chain k (bs ++ [b]) = writeChainByte (writeChain m chain k bs) chain (k + bs.length) b := by
  induction bs generalizing m k with
  | nil => rfl
  | cons c bs ih =>
    refine (ih (writeChainByte m chain k c) (k + 1)).trans ?_
    rw [List.length_cons, show k + 1 + bs.length = k + (bs.length + 1) by omega]
    rfl

/-- A byte goes where the cells before it put it, whatever cells the chain gains later. -/
theorem writeChainByte_take (m : List Host.Cell) (chain : List CellId) {n k : Nat} (hk : k / 128 < n) (b : Byte) :
    writeChainByte m (chain.take n) k b = writeChainByte m chain k b := by
  simp only [writeChainByte, Config.cellBytes, List.getElem?_take_of_lt hk]

/-! ### The state while a frame arrives -/

/-- The state in which a frame start has taken a record, some bytes are stored and the last ones are kept back. -/
def State.whileReceiving (s : State) (r : Handle) (rest : List Handle) (n : Nat) (stored recent : List Byte) : State :=
  let cells := cellsFor stored.length
  { s with
    pool :=
      { store := writeChain s.pool.store (s.pool.freeCells.take n) 0 stored
        records := s.pool.records.set r (some { s.receivingRecord with chain := s.pool.freeCells.take cells })
        freeCells := s.pool.freeCells.drop cells
        freeRecords := rest }
    line := { s.line with reception := some (.holding (.storing r) stored recent) } }

section
variable {s : State} {r : Handle} {rest : List Handle} {n : Nat} {stored : List Byte}

theorem State.record_whileReceiving (recent : List Byte) :
    (s.whileReceiving r rest n stored recent).record r =
      some { s.receivingRecord with chain := s.pool.freeCells.take (cellsFor stored.length) } := by
  simp [State.whileReceiving, State.record]

theorem frameStarted_whileReceiving (up : s.line.up = true) (idle : s.line.reception = none)
    (on : s.accord.config.lineEnable = true) (free : s.pool.freeRecords = r :: rest) :
    frameStarted s = s.whileReceiving r rest n [] [] := by
  have ready : (s.line.reception.isSome || !s.line.up) = false := by simp [up, idle]
  simp only [frameStarted, ready, on, free]
  rfl

theorem byteReceived_whileReceiving_of_few {recent : List Byte} (few : recent.length < 4) (b : Byte) :
    byteReceived b (s.whileReceiving r rest n [] recent) = s.whileReceiving r rest n [] (recent ++ [b]) := by
  have pushed := Reception.push_holding_of_few (.storing r) few b
  rw [byteReceived_of_few (s := s.whileReceiving r rest n [] recent) rfl few]
  rw [Reception.push_of_few (x := Reception.holding (.storing r) [] recent) few] at pushed
  simp only [State.whileReceiving, ← pushed]
  rfl

/-- The pool once one more byte is stored: in a cell of the chain, or in one newly taken. -/
theorem storeByte_whileReceiving (recent recent' : List Byte) (e : Byte) (enough : cellsFor (stored.length + 1) ≤ n)
    (cells : n ≤ s.pool.freeCells.length) :
    (s.whileReceiving r rest n stored recent).pool.storeByte r
        { s.receivingRecord with chain := s.pool.freeCells.take (cellsFor stored.length) } stored.length e =
      (s.whileReceiving r rest n (stored ++ [e]) recent').pool := by
  have grown : cellsFor (stored ++ [e]).length = cellsFor (stored.length + 1) := by rw [List.length_append]; rfl
  have low : cellsFor stored.length ≤ cellsFor (stored.length + 1) := Nat.div_le_div_right (by omega)
  have chain : (s.pool.freeCells.take (cellsFor stored.length)).length = cellsFor stored.length :=
    List.length_take_of_le (by omega)
  have inside : stored.length / 128 < cellsFor (stored.length + 1) := by
    simp only [cellsFor, Config.cellBytes]
    omega
  have written {k : Nat} (hk : stored.length / 128 < k) :
      writeChainByte (writeChain s.pool.store (s.pool.freeCells.take n) 0 stored) (s.pool.freeCells.take k)
          stored.length e =
        writeChain s.pool.store (s.pool.freeCells.take n) 0 (stored ++ [e]) := by
    rw [writeChain_snoc, Nat.zero_add, writeChainByte_take _ _ hk, writeChainByte_take _ _ (by omega)]
  by_cases fits : stored.length / 128 < cellsFor stored.length
  · have same : cellsFor (stored.length + 1) = cellsFor stored.length := by
      simp only [cellsFor, Config.cellBytes] at fits ⊢
      omega
    rw [Pool.storeByte, if_pos (by rw [chain]; exact fits)]
    simp only [State.whileReceiving, grown, same, written fits]
  · have next : cellsFor (stored.length + 1) = cellsFor stored.length + 1 := by
      simp only [cellsFor, Config.cellBytes] at fits ⊢
      omega
    have room : cellsFor stored.length < s.pool.freeCells.length := by omega
    have head : s.pool.freeCells.drop (cellsFor stored.length) =
        s.pool.freeCells[cellsFor stored.length] :: s.pool.freeCells.drop (cellsFor stored.length + 1) :=
      List.drop_eq_getElem_cons room
    have longer : s.pool.freeCells.take (cellsFor stored.length) ++ [s.pool.freeCells[cellsFor stored.length]] =
        s.pool.freeCells.take (cellsFor stored.length + 1) := List.take_append_getElem room
    rw [Pool.storeByte, if_neg (by rw [chain]; exact fits)]
    simp only [State.whileReceiving, head, longer, grown, next, Vector.set_set, written (Nat.lt_succ_of_le (by omega :
      stored.length / 128 ≤ cellsFor stored.length))]

/-- A byte with four kept back: the oldest is stored. -/
theorem byteReceived_whileReceiving_of_full (e : Byte) {later : List Byte} (full : later.length = 3) (b : Byte)
    (short : stored.length < 1536) (enough : cellsFor (stored.length + 1) ≤ n) (cells : n ≤ s.pool.freeCells.length) :
    byteReceived b (s.whileReceiving r rest n stored (e :: later)) =
      s.whileReceiving r rest n (stored ++ [e]) (later ++ [b]) := by
  let t := s.whileReceiving r rest n stored (e :: later)
  have pushed := Reception.push_holding_of_full (.storing r) stored e full b
  rw [Reception.push_of_full (x := Reception.holding (.storing r) stored (e :: later)) rfl full] at pushed
  dsimp only at pushed
  have place : (Reception.holding (.storing r) stored (e :: later)).received - 4 = stored.length := by
    simp [Reception.holding, full]
  rw [byteReceived_of_full (s := t) (x := .holding (.storing r) stored (e :: later)) rfl rfl full, pushed, place]
  have stores := State.storeReceived_of_room (State.record_whileReceiving (s := s) (r := r) (rest := rest) (n := n)
    (stored := stored) (e :: later)) rfl short e
  rw [show (Reception.holding (.storing r) stored (e :: later)).mode = .storing r from rfl, stores,
    storeByte_whileReceiving (e :: later) (later ++ [b]) e enough cells]
  rfl

end

/-- Settles O43: the state while the frame arrives, byte by byte, and the bytes of its chain at the end. -/
theorem receivedFrameIsStoredWhole : Obligations.ReceivedFrameIsStoredWhole := by
  unfold Obligations.ReceivedFrameIsStoredWhole
  intro s r rest frame tail runs up idle on free nodup wf low high four cells n run
  have taken (stored recent : List Byte) (b : Byte) :
      run (.next (s.whileReceiving r rest n stored recent)) (.wholeByteReceived b) =
        .next (byteReceived b (s.whileReceiving r rest n stored recent)) :=
    running_of_runs (s := s.whileReceiving r rest n stored recent) runs (byteReceived b)
  have arrives : frame.length ≤ frame.length →
      ((frame ++ tail).map Instr.wholeByteReceived).foldl run (exec .frameStart s) =
        .next (s.whileReceiving r rest n frame tail) := by
    refine kept_back_induction
      (P := fun stored recent => stored.length ≤ frame.length →
        ((stored ++ recent).map Instr.wholeByteReceived).foldl run (exec .frameStart s) =
          .next (s.whileReceiving r rest n stored recent))
      (fun _ => ?_) (fun recent b few ih _ => ?_) (fun stored e later b full ih fits => ?_) frame four
    · exact (running_of_runs runs frameStarted).trans
        (congrArg _ (frameStarted_whileReceiving up idle on free))
    · rw [← List.append_assoc, List.map_append, List.foldl_append, ih (Nat.zero_le _)]
      exact (taken [] recent b).trans (congrArg _ (byteReceived_whileReceiving_of_few few b))
    · rw [List.length_append, List.length_singleton] at fits
      rw [show (stored ++ [e]) ++ (later ++ [b]) = (stored ++ e :: later) ++ [b] by simp, List.map_append,
        List.foldl_append, ih (by omega)]
      refine (taken stored (e :: later) b).trans (congrArg _ ?_)
      exact byteReceived_whileReceiving_of_full e full b (by omega)
        (Nat.div_le_div_right (Nat.add_le_add_right fits 127)) cells
  have length : (s.pool.freeCells.take n).length = n := List.length_take_of_le cells
  refine ⟨_, arrives (Nat.le_refl _), State.record_whileReceiving .., rfl, rfl, ?_, ?_⟩
  · refine chainBytes_writeChain wf (nodup.sublist (List.take_sublist ..)) ?_
    rw [length]
    omega
  · rw [← four]
    rfl

end Sys2Proof.Machine
end

section
/-! The detach clean-up (R46, R47, R155, R167, R179). -/

namespace Sys2Proof.Machine

/-! ### What a host has been told -/

/-- `t` leaves host `k` as `s` does once `k` has been told some reports, in their order. -/
structure State.ToldFrom (t s : State) (k : HostId) (l : List Report) : Prop where
  host : t.host k = (l.foldl (fun u r => u.notify k r) s).host k
  tick : t.tick = s.tick

theorem State.tick_foldl_notify (s : State) (k : HostId) (l : List Report) :
    (l.foldl (fun u r => u.notify k r) s).tick = s.tick :=
  foldl_keeps (fun u r => State.notify u k r) State.tick (by simp) l s

/-- Reports to a host change nothing of it but its notices. -/
theorem State.quiet_foldl_notify (s : State) (k : HostId) (l : List Report) :
    { (l.foldl (fun u r => u.notify k r) s).host k with notices := [], lost := 0 } =
      { s.host k with notices := [], lost := 0 } := by
  refine foldl_keeps (fun u r => State.notify u k r) (fun u => { u.host k with notices := [], lost := 0 })
    (fun u r => ?_) l s
  by_cases gone : (u.host k).reach = .detached
  · rw [State.notify_of_detached gone]
  · rw [State.notify_of_attached gone, State.host_setHost_self]
    unfold HostCtx.addNotice
    split <;> rfl

theorem State.foldl_notify_of_detached {s : State} {k : HostId} (gone : (s.host k).reach = .detached)
    (l : List Report) : l.foldl (fun u r => u.notify k r) s = s := by
  induction l with
  | nil => rfl
  | cons r l ih => rw [List.foldl_cons, State.notify_of_detached gone, ih]

section
variable {t s : State} {k : HostId} {l : List Report}

theorem State.ToldFrom.refl (s : State) (k : HostId) : s.ToldFrom s k [] := ⟨rfl, rfl⟩

/-- A change that leaves the host and the clock alone. -/
theorem State.ToldFrom.congr (told : t.ToldFrom s k l) {u : State} (host : u.host k = t.host k)
    (tick : u.tick = t.tick) : u.ToldFrom s k l :=
  ⟨host.trans told.host, tick.trans told.tick⟩

theorem State.ToldFrom.notify (told : t.ToldFrom s k l) (r : Report) : (t.notify k r).ToldFrom s k (l ++ [r]) := by
  refine ⟨?_, by rw [State.notify_tick, told.tick]⟩
  rw [List.foldl_append]
  have stamp : t.stamp = (l.foldl (fun u r => u.notify k r) s).stamp := by
    rw [State.stamp, State.stamp, State.tick_foldl_notify, told.tick]
  exact State.host_notify_congr told.host stamp r

theorem State.ToldFrom.notify_ne (told : t.ToldFrom s k l) {j : HostId} (hj : k ≠ j) (r : Report) :
    (t.notify j r).ToldFrom s k l :=
  told.congr (t.host_notify_of_ne hj r) (t.notify_tick j r)

theorem State.ToldFrom.trans {u : State} {m : List Report} (told : t.ToldFrom s k l) (later : u.ToldFrom t k m) :
    u.ToldFrom s k (l ++ m) := by
  have folded : (m.foldl (fun u r => u.notify k r) t).ToldFrom s k (l ++ m) := by
    clear later
    induction m using List.reverseRecOn with
    | nil => simpa using told
    | append_singleton m r ih =>
      rw [List.foldl_append, ← List.append_assoc]
      exact ih.notify r
  exact folded.congr later.host (later.tick.trans (State.tick_foldl_notify ..).symm)

/-- A change before the reports that leaves the host and the clock alone. -/
theorem State.ToldFrom.since (told : t.ToldFrom s k l) {u : State} (host : s.host k = u.host k)
    (tick : s.tick = u.tick) : t.ToldFrom u k l :=
  ((State.ToldFrom.refl u k).congr host tick).trans told

theorem State.ToldFrom.quiet (told : t.ToldFrom s k l) :
    { t.host k with notices := [], lost := 0 } = { s.host k with notices := [], lost := 0 } := by
  rw [told.host, State.quiet_foldl_notify]

theorem State.ToldFrom.of_detached (told : t.ToldFrom s k l) (gone : (s.host k).reach = .detached) :
    t.host k = s.host k := by
  rw [told.host, State.foldl_notify_of_detached gone]

end

/-! ### A pass over the table -/

/-- A report to a host, if there is one. -/
def State.tell (s : State) : Option (HostId × Report) → State
  | none => s
  | some (k, r) => s.notify k r

/-- What of a report is for one host. -/
def reportFor (k : HostId) : Option (HostId × Report) → List Report
  | none => []
  | some (j, r) => if j = k then [r] else []

theorem State.toldFrom_tell (s : State) (o : Option (HostId × Report)) (k : HostId) :
    (s.tell o).ToldFrom s k (reportFor k o) := by
  rcases o with _ | ⟨j, r⟩
  · exact .refl s k
  · by_cases hj : j = k
    · subst hj
      simpa [reportFor, State.tell] using (State.ToldFrom.refl s j).notify r
    · simpa [reportFor, State.tell, hj] using (State.ToldFrom.refl s k).notify_ne (Ne.symm hj) r

@[simp] theorem State.entry_tell (s : State) (o : Option (HostId × Report)) (i : Index) :
    (s.tell o).entry i = s.entry i := by
  rcases o with _ | ⟨j, r⟩
  · rfl
  · exact State.entry_notify ..

theorem State.setEntry_entry (s : State) (i : Index) : s.setEntry i (s.entry i) = s := by
  simp [State.setEntry, State.entry]

section
variable {f : State → Index → State} {change : Entry → Entry} {report : Index → Entry → Option (HostId × Report)}

/-- A pass that changes each entry by itself and may report it. -/
theorem entry_foldl_of_changes (hf : ∀ s i, f s i = (s.setEntry i (change (s.entry i))).tell (report i (s.entry i)))
    {l : List Index} (nodup : l.Nodup) (s : State) (j : Index) :
    (l.foldl f s).entry j = if j ∈ l then change (s.entry j) else s.entry j := by
  induction l generalizing s with
  | nil => rfl
  | cons i l ih =>
    obtain ⟨absent, rest⟩ := List.nodup_cons.1 nodup
    rw [List.foldl_cons, ih rest, hf, State.entry_tell, State.entry_setEntry]
    by_cases hj : j = i
    · subst hj
      simp [absent]
    · simp [hj]

theorem toldFrom_foldl_of_changes (hf : ∀ s i, f s i = (s.setEntry i (change (s.entry i))).tell (report i (s.entry i)))
    {l : List Index} (nodup : l.Nodup) (s : State) (k : HostId) :
    (l.foldl f s).ToldFrom s k (l.flatMap fun i => reportFor k (report i (s.entry i))) := by
  induction l using List.reverseRecOn with
  | nil => exact .refl s k
  | append_singleton l i ih =>
    have parts := List.nodup_append.1 nodup
    have absent : i ∉ l := fun mem => parts.2.2 i mem i (List.mem_singleton_self i) rfl
    have kept : (l.foldl f s).entry i = s.entry i := by
      rw [entry_foldl_of_changes hf parts.1, if_neg absent]
    rw [List.foldl_append, List.foldl_cons, List.foldl_nil, hf, kept, List.flatMap_append]
    have told := (ih parts.1).congr (u := (l.foldl f s).setEntry i (change (s.entry i))) rfl rfl
    simpa using told.trans (State.toldFrom_tell _ (report i (s.entry i)) k)

end

/-! ### The two passes of a detach (R46, R47) -/

/-- An entry without the claim of host `h`. -/
def Entry.withoutOwned (h : HostId) (e : Entry) : Entry :=
  match e.use with
  | .unicast c => if c.owner = h then { e with use := .free } else e
  | _ => e

/-- The offer of host `h` on an entry, withdrawn. -/
def withdrawal (h : HostId) (i : Index) (e : Entry) : Option (HostId × Report) :=
  match e.use with
  | .unicast c =>
    if c.owner = h then
      c.offer.map fun o => (o.target, .offerResolved ⟨i, e.generation⟩ .withdrawn h e.generation)
    else none
  | _ => none

theorem State.detachOwned_eq (h : HostId) (s : State) (i : Index) :
    State.detachOwned h s i = (s.setEntry i ((s.entry i).withoutOwned h)).tell (withdrawal h i (s.entry i)) := by
  have same : s.setEntry i (s.entry i) = s := s.setEntry_entry i
  cases hu : (s.entry i).use with
  | free | group g =>
    simp only [State.detachOwned, Entry.claim?, hu, Entry.withoutOwned, withdrawal, same]
    rfl
  | unicast c =>
    by_cases own : c.owner = h
    · cases ho : c.offer with
      | none =>
        simp only [State.detachOwned, Entry.claim?, hu, own, Entry.withoutOwned, withdrawal, if_true,
          State.endClaim_of_no_offer rfl ho, ho]
        rfl
      | some o =>
        simp only [State.detachOwned, Entry.claim?, hu, own, Entry.withoutOwned, withdrawal, if_true,
          State.endClaim_of_offer rfl ho, ho]
        rfl
    · simp only [State.detachOwned, Entry.claim?, hu, own, Entry.withoutOwned, withdrawal, same, if_false]
      rfl

/-- An entry without host `h` among its members and without an offer to it. -/
def Entry.withoutParty (h : HostId) (e : Entry) : Entry :=
  match e.use with
  | .free => e
  | .unicast c => if c.offer.any (fun o => o.target = h) then { e with use := .unicast { c with offer := none } } else e
  | .group g =>
    if g.members.get h then
      if (g.members.set h false).members.isEmpty then { e with use := .free }
      else { e with use := .group { g with members := g.members.set h false } }
    else e

/-- The offer to host `h` on an entry, refused. -/
def refusal (h : HostId) (i : Index) (e : Entry) : Option (HostId × Report) :=
  match e.use with
  | .unicast c =>
    if c.offer.any (fun o => o.target = h) then
      some (c.owner, .offerResolved ⟨i, e.generation⟩ .refused h e.generation)
    else none
  | _ => none

theorem State.detachOther_eq (h : HostId) (s : State) (i : Index) :
    State.detachOther h s i = (s.setEntry i ((s.entry i).withoutParty h)).tell (refusal h i (s.entry i)) := by
  have same : s.setEntry i (s.entry i) = s := s.setEntry_entry i
  cases hu : (s.entry i).use with
  | free =>
    simp only [State.detachOther, hu, Entry.withoutParty, refusal, same]
    rfl
  | group g =>
    by_cases member : g.members.get h = true
    · simp only [State.detachOther, hu, member, Entry.withoutParty, refusal, if_true, State.removeMember]
      split <;> rfl
    · simp only [State.detachOther, hu, member, Entry.withoutParty, refusal, Bool.false_eq_true, if_false, same]
      rfl
  | unicast c =>
    by_cases offered : c.offer.any (fun o => o.target = h) = true
    · simp only [State.detachOther, hu, offered, Entry.withoutParty, refusal, if_true, State.setClaim,
        State.notifyOffer_setEntry]
      rfl
    · simp only [State.detachOther, hu, offered, Entry.withoutParty, refusal, Bool.false_eq_true, if_false, same]
      rfl

theorem Entry.withoutParty_withoutOwned (h : HostId) (e : Entry) :
    (e.withoutOwned h).withoutParty h = e.afterDetach h := by
  rcases e with ⟨g, _ | c | g⟩
  · rfl
  · by_cases own : c.owner = h <;> simp only [Entry.withoutOwned, own, Entry.afterDetach, if_true, if_false] <;> rfl
  · rfl

theorem Index.all_nodup : Index.all.Nodup := List.nodup_finRange _

theorem State.entry_detachTable (s : State) (h : HostId) (i : Index) :
    (s.detachTable h).entry i = (s.entry i).afterDetach h := by
  rw [State.detachTable, entry_foldl_of_changes (State.detachOther_eq h) Index.all_nodup, if_pos (Index.mem_all i),
    entry_foldl_of_changes (State.detachOwned_eq h) Index.all_nodup, if_pos (Index.mem_all i),
    Entry.withoutParty_withoutOwned]

theorem reportFor_withdrawal (h k : HostId) (i : Index) (e : Entry) :
    reportFor k (withdrawal h i e) =
      Option.toList (match e.use with
        | .unicast c =>
          if c.owner = h ∧ c.offer.any (fun o => o.target = k) then
            some (.offerResolved ⟨i, e.generation⟩ .withdrawn h e.generation)
          else none
        | _ => none) := by
  rcases e with ⟨g, _ | c | g⟩
  · rfl
  · by_cases own : c.owner = h
    · cases ho : c.offer with
      | none => simp [withdrawal, own, ho, reportFor]
      | some o => by_cases target : o.target = k <;> simp [withdrawal, own, ho, reportFor, target]
    · simp [withdrawal, own, reportFor]
  · rfl

/-- What a refusal tells another host is the same before the host's own claims are freed. -/
theorem reportFor_refusal {h k : HostId} (hk : k ≠ h) (i : Index) (e : Entry) :
    reportFor k (refusal h i (e.withoutOwned h)) =
      Option.toList (match e.use with
        | .unicast c =>
          if c.owner = k ∧ c.offer.any (fun o => o.target = h) then
            some (.offerResolved ⟨i, e.generation⟩ .refused h e.generation)
          else none
        | _ => none) := by
  rcases e with ⟨g, _ | c | g⟩
  · rfl
  · by_cases own : c.owner = h
    · have other : c.owner ≠ k := fun e => hk (e.symm.trans own)
      simp [Entry.withoutOwned, own, refusal, reportFor, Ne.symm hk]
    · by_cases offered : c.offer.any (fun o => o.target = h) = true
      · by_cases owner : c.owner = k
        · subst owner
          simp [Entry.withoutOwned, own, refusal, offered, reportFor]
        · simp [Entry.withoutOwned, own, refusal, offered, reportFor, owner]
      · simp [Entry.withoutOwned, own, refusal, offered, reportFor]
  · rfl

/-- Every other host is told of the offers withdrawn, and then of those refused. -/
theorem State.toldFrom_detachTable (s : State) (h : HostId) {k : HostId} (hk : k ≠ h) :
    (s.detachTable h).ToldFrom s k (s.withdrawnOffers h k ++ s.refusedOffers h k) := by
  have first := toldFrom_foldl_of_changes (State.detachOwned_eq h) Index.all_nodup s k
  have second := toldFrom_foldl_of_changes (State.detachOther_eq h) Index.all_nodup
    (Index.all.foldl (State.detachOwned h) s) k
  have owned (i : Index) : (Index.all.foldl (State.detachOwned h) s).entry i = (s.entry i).withoutOwned h := by
    rw [entry_foldl_of_changes (State.detachOwned_eq h) Index.all_nodup, if_pos (Index.mem_all i)]
  simp only [reportFor_withdrawal] at first
  simp only [owned, reportFor_refusal hk] at second
  have told := first.trans second
  rw [← List.filterMap_eq_flatMap_toList, ← List.filterMap_eq_flatMap_toList] at told
  exact told

/-- A pass over the table changes nothing of the host's context but its notices. -/
theorem State.quiet_detachTable (s : State) (h k : HostId) :
    { (s.detachTable h).host k with notices := [], lost := 0 } = { s.host k with notices := [], lost := 0 } :=
  ((toldFrom_foldl_of_changes (State.detachOwned_eq h) Index.all_nodup s k).trans
    (toldFrom_foldl_of_changes (State.detachOther_eq h) Index.all_nodup _ k)).quiet

/-! ### Notices to several hosts -/

theorem State.toldFrom_notifyAll {hs : List HostId} (nodup : hs.Nodup) (s : State) (r : Report) (k : HostId) :
    (s.notifyAll hs r).ToldFrom s k (if k ∈ hs then [r] else []) := by
  refine ⟨?_, State.notifyAll_tick ..⟩
  rw [State.host_notifyAll nodup]
  split <;> rfl

theorem State.toldFrom_notifyAttached (s : State) (r : Report) (k : HostId) :
    (s.notifyAll s.attachedHosts r).ToldFrom s k [r] :=
  ⟨s.host_notifyAttached r k, State.notifyAll_tick ..⟩

theorem State.toldFrom_notifyOutcome (s : State) (q : Proposal) (o : AccordOutcome) (d : Option HostId) (k : HostId) :
    (s.notifyOutcome q o d).ToldFrom s k
      (if k = q.proposer ∨ (q.votes.get k).isSome then [.accordOutcome o q.serial d] else []) := by
  have told := State.toldFrom_notifyAll (hs := HostId.all.filter fun h => h = q.proposer || (q.votes.get h).isSome)
    (List.Nodup.filter _ (by decide)) s (.accordOutcome o q.serial d) k
  simpa [HostId.mem_all, State.notifyOutcome] using told

/-- The notices of an application. -/
theorem State.toldFrom_applyProposal (s : State) (q : Proposal) (k : HostId) :
    (s.applyProposal q).ToldFrom s k
      ((if k = q.proposer ∨ (q.votes.get k).isSome then [.accordOutcome .applied q.serial none] else []) ++
        [.configApplied (s.accord.generation + 1)]) := by
  let t := s.setAccord { s.accord with config := q.record, generation := s.accord.generation + 1, proposal := none }
  have announced : (s.announced q).ToldFrom s k _ :=
    ((t.toldFrom_notifyOutcome q .applied none k).trans (State.toldFrom_notifyAttached _ _ k)).since rfl rfl
  rw [State.applyProposal_eq]
  split
  · have keeps := (s.announced q).disableReception_keeps
    exact announced.congr (congrArg (State.host · k) keeps :) (congrArg State.tick keeps :)
  · exact announced

/-! ### The Accord Unit (R167) -/

/-- A proposal without the vote of host `h`. -/
def Proposal.without (q : Proposal) (h : HostId) : Proposal := { q with votes := q.votes.set h none }

theorem Proposal.agreed_without (q : Proposal) (h : HostId) : (q.without h).agreed = q.agreedWithout h := by
  unfold Proposal.agreed Proposal.agreedWithout
  refine congrArg (List.all HostId.all) (funext fun k => ?_)
  by_cases hk : k = h <;> simp [Proposal.without, PerHost.get_set, hk]

theorem State.detachApplies_some {s : State} {h : HostId} {q : Proposal} :
    s.detachApplies h = some q ↔
      s.accord.proposal = some q ∧ q.proposer ≠ h ∧ (q.votes.get h).isSome = true ∧ q.agreedWithout h = true := by
  rw [State.detachApplies, Option.filter_eq_some_iff]
  simp [and_assoc]

section
variable {s : State} {h : HostId} {q : Proposal}

theorem State.detachAccord_of_none (none : s.accord.proposal = Option.none) : s.detachAccord h = s := by
  simp only [State.detachAccord, none]

theorem State.detachAccord_of_proposer (hq : s.accord.proposal = some q) (own : q.proposer = h) :
    s.detachAccord h = s.endProposal q .withdrawn none := by
  simp only [State.detachAccord, hq, own, if_true]

theorem State.detachAccord_of_other (hq : s.accord.proposal = some q) (other : q.proposer ≠ h)
    (novote : (q.votes.get h).isSome = false) : s.detachAccord h = s := by
  simp only [State.detachAccord, hq, other, novote, Bool.false_eq_true, if_false]

theorem State.detachAccord_of_voter (hq : s.accord.proposal = some q) (other : q.proposer ≠ h)
    (vote : (q.votes.get h).isSome = true) :
    s.detachAccord h =
      if q.agreedWithout h then
        (s.setAccord { s.accord with proposal := some (q.without h) }).applyProposal (q.without h)
      else s.setAccord { s.accord with proposal := some (q.without h) } := by
  rw [← Proposal.agreed_without]
  simp only [State.detachAccord, hq, other, vote, if_false, if_true]
  rfl

theorem State.accord_detachAccord (s : State) (h : HostId) : (s.detachAccord h).accord = s.detachedAccord h := by
  rcases hq : s.accord.proposal with _ | q
  · rw [State.detachAccord_of_none hq]
    simp only [State.detachedAccord, hq]
  by_cases own : q.proposer = h
  · rw [State.detachAccord_of_proposer hq own]
    simp [State.detachedAccord, hq, own, State.endProposal, State.setAccord]
  cases vote : (q.votes.get h).isSome
  · rw [State.detachAccord_of_other hq own vote]
    simp only [State.detachedAccord, hq, own, if_false, eq_none_of_present vote rfl, if_true]
  · have voted : q.votes.get h ≠ none := Option.isSome_iff_ne_none.1 vote
    rw [State.detachAccord_of_voter hq own vote]
    split
    · next agreed =>
      rw [State.accord_applyProposal]
      simp only [State.detachedAccord, hq, own, voted, agreed, if_false, if_true]
      rfl
    · next agreed =>
      simp only [State.detachedAccord, hq, own, voted, agreed, if_false]
      rfl

/-- The reports of the Accord Unit; those for another host are the notices of R167 to R169. -/
theorem State.exists_toldFrom_detachAccord (s : State) (h k : HostId) :
    ∃ l, (s.detachAccord h).ToldFrom s k l ∧ (k ≠ h → l = s.accordNotices h k) := by
  rcases hq : s.accord.proposal with _ | q
  · rw [State.detachAccord_of_none hq]
    exact ⟨[], .refl s k, fun _ => by simp only [State.accordNotices, hq]⟩
  by_cases own : q.proposer = h
  · rw [State.detachAccord_of_proposer hq own]
    refine ⟨_, (State.toldFrom_notifyOutcome (s.setAccord { s.accord with proposal := none }) q .withdrawn none k).since
      rfl rfl, fun hk => ?_⟩
    simp only [State.accordNotices, hq, own, hk, false_or, if_true]
  cases vote : (q.votes.get h).isSome
  · rw [State.detachAccord_of_other hq own vote]
    refine ⟨[], .refl s k, fun _ => ?_⟩
    simp only [State.accordNotices, hq, own, vote, Bool.false_and, Bool.false_eq_true, if_false]
  · rw [State.detachAccord_of_voter hq own vote]
    split
    · next agreed =>
      refine ⟨_, (State.toldFrom_applyProposal (s.setAccord { s.accord with proposal := some (q.without h) })
        (q.without h) k).since rfl rfl, fun hk => ?_⟩
      have same : (q.without h).votes.get k = q.votes.get k := PerHost.get_set_ne _ _ hk
      simp only [State.accordNotices, hq, own, vote, agreed, Bool.true_and, same, if_true, if_false]
      rfl
    · next agreed =>
      refine ⟨[], (State.ToldFrom.refl s k).congr rfl rfl, fun _ => ?_⟩
      simp only [State.accordNotices, hq, own, vote, agreed, Bool.true_and, if_false, Bool.false_eq_true]

theorem State.toldFrom_detachAccord (s : State) {h k : HostId} (hk : k ≠ h) :
    (s.detachAccord h).ToldFrom s k (s.accordNotices h k) := by
  obtain ⟨l, told, notices⟩ := s.exists_toldFrom_detachAccord h k
  exact notices hk ▸ told

/-- The detached host itself is told nothing. -/
theorem State.host_detachAccord_self (gone : (s.host h).reach = .detached) : (s.detachAccord h).host h = s.host h := by
  obtain ⟨l, told, -⟩ := s.exists_toldFrom_detachAccord h h
  exact told.of_detached gone

end

/-! ### The reception that an application ends (R91) -/

section
variable {s : State} {h : HostId}

/-- What the Accord Unit's part of a detach leaves alone. -/
theorem State.detachAccord_keeps (s : State) (h : HostId) :
    { s.detachAccord h with line := s.line, pool := s.pool, hosts := s.hosts, accord := s.accord } = s := by
  rcases hq : s.accord.proposal with _ | q
  · rw [State.detachAccord_of_none hq]
  by_cases own : q.proposer = h
  · rw [State.detachAccord_of_proposer hq own]
    simp [State.endProposal, State.setAccord]
  cases vote : (q.votes.get h).isSome
  · rw [State.detachAccord_of_other hq own vote]
  · rw [State.detachAccord_of_voter hq own vote]
    split
    · obtain ⟨t, rfl, -, -, keeps, -⟩ :=
        applicationOfAProposal (s.setAccord { s.accord with proposal := some (q.without h) }) (q.without h)
      exact (congrArg (fun u : State => { u with accord := s.accord }) keeps :)
    · rfl

theorem State.detachLoses_of_applies {q : Proposal} (applies : s.detachApplies h = some q) :
    s.detachLoses h =
      if s.accord.config.lineEnable = true ∧ q.record.lineEnable = false then s.line.storing else [] := by
  rcases hx : s.line.reception with _ | x
  · simp [State.detachLoses, applies, Line.storing, hx]
  · cases hm : x.mode with
    | ignoring => simp [State.detachLoses, applies, Line.storing, hx, hm]
    | storing r => simp [State.detachLoses, applies, Line.storing, hx, hm]

/-- Where the detach applies no proposal, it ends no reception. -/
theorem State.detachAccord_of_not_applies (stays : s.detachApplies h = none) :
    s.detachLoses h = [] ∧ (s.detachAccord h).line = s.line ∧ (s.detachAccord h).pool = s.pool := by
  refine ⟨by simp only [State.detachLoses, stays], ?_⟩
  rcases hq : s.accord.proposal with _ | q
  · rw [State.detachAccord_of_none hq]
    exact ⟨rfl, rfl⟩
  by_cases own : q.proposer = h
  · rw [State.detachAccord_of_proposer hq own]
    simp [State.endProposal, State.setAccord]
  cases vote : (q.votes.get h).isSome
  · rw [State.detachAccord_of_other hq own vote]
    exact ⟨rfl, rfl⟩
  · have kept : ¬ q.agreedWithout h = true := fun agreed =>
      nomatch stays.symm.trans (State.detachApplies_some.2 ⟨hq, own, vote, agreed⟩)
    rw [State.detachAccord_of_voter hq own vote, if_neg kept]
    exact ⟨rfl, rfl⟩

theorem Line.storing_eq_singleton {l : Line} {r : Handle} :
    l.storing = [r] ↔ ∃ x, l.reception = some x ∧ x.mode = .storing r := by
  rcases hx : l.reception with _ | x
  · simp [Line.storing, hx]
  · cases hm : x.mode <;> simp [Line.storing, hx, hm]

theorem State.pool_disableReception (s : State) : s.disableReception.pool = s.pool.dropRefs s.line.storing := by
  rcases hx : s.line.reception with _ | x
  · rw [State.disableReception_of_idle hx]
    simp [Line.storing, hx, Pool.dropRefs]
  · cases hm : x.mode with
    | ignoring =>
      rw [State.disableReception_of_ignoring hx hm]
      simp [Line.storing, hx, hm, Pool.dropRefs]
    | storing r =>
      obtain ⟨d, ends, -⟩ := State.disableReception_of_storing hx hm
      rw [ends, Line.storing_eq_singleton.2 ⟨x, hx, hm⟩]
      rfl

theorem State.line_disableReception_of_none {s : State} (none : s.line.storing = []) :
    s.disableReception.line = s.line := by
  rcases hx : s.line.reception with _ | x
  · rw [State.disableReception_of_idle hx]
  · cases hm : x.mode with
    | ignoring => rw [State.disableReception_of_ignoring hx hm]
    | storing r => exact nomatch none.symm.trans (Line.storing_eq_singleton.2 ⟨x, hx, hm⟩)

theorem State.clock_disableReception (s : State) :
    s.disableReception.line.up = s.line.up ∧ s.disableReception.line.lastChange = s.line.lastChange := by
  rcases hx : s.line.reception with _ | x
  · rw [State.disableReception_of_idle hx]
    exact ⟨rfl, rfl⟩
  · cases hm : x.mode with
    | ignoring =>
      rw [State.disableReception_of_ignoring hx hm]
      exact ⟨rfl, rfl⟩
    | storing r =>
      obtain ⟨d, ends, -⟩ := State.disableReception_of_storing hx hm
      rw [ends]
      exact ⟨rfl, rfl⟩

/-- What the Accord Unit's part of a detach does to the line and the pool is what it does where it ends a reception. -/
theorem State.detachAccord_of_loses {q : Proposal} (applies : s.detachApplies h = some q) :
    ∃ t : State, t.line = s.line ∧ t.pool = s.pool ∧ s.detachAccord h =
      if s.accord.config.lineEnable = true ∧ q.record.lineEnable = false then t.disableReception else t := by
  obtain ⟨hq, other, vote, agreed⟩ := State.detachApplies_some.1 applies
  let u := s.setAccord { s.accord with proposal := some (q.without h) }
  have before := u.announced_keeps (q.without h)
  refine ⟨u.announced (q.without h), (congrArg State.line before :), (congrArg State.pool before :), ?_⟩
  rw [State.detachAccord_of_voter hq other vote, if_pos agreed]
  exact State.applyProposal_eq ..

theorem State.pool_detachAccord (s : State) (h : HostId) :
    (s.detachAccord h).pool = s.pool.dropRefs (s.detachLoses h) := by
  rcases applies : s.detachApplies h with _ | q
  · obtain ⟨none, -, pool⟩ := State.detachAccord_of_not_applies applies
    rw [none, pool]
    rfl
  · obtain ⟨t, line, pool, ends⟩ := State.detachAccord_of_loses applies
    rw [ends, State.detachLoses_of_applies applies]
    split
    · rw [State.pool_disableReception, line, pool]
    · exact pool

theorem State.clock_detachAccord (s : State) (h : HostId) :
    (s.detachAccord h).line.up = s.line.up ∧ (s.detachAccord h).line.lastChange = s.line.lastChange := by
  rcases applies : s.detachApplies h with _ | q
  · rw [(State.detachAccord_of_not_applies applies).2.1]
    exact ⟨rfl, rfl⟩
  · obtain ⟨t, line, -, ends⟩ := State.detachAccord_of_loses applies
    rw [ends]
    split
    · exact ⟨t.clock_disableReception.1.trans (congrArg Line.up line),
        t.clock_disableReception.2.trans (congrArg Line.lastChange line)⟩
    · exact ⟨congrArg Line.up line, congrArg Line.lastChange line⟩

theorem State.line_detachAccord_of_none (none : s.detachLoses h = []) : (s.detachAccord h).line = s.line := by
  rcases applies : s.detachApplies h with _ | q
  · exact (State.detachAccord_of_not_applies applies).2.1
  · obtain ⟨t, line, -, ends⟩ := State.detachAccord_of_loses applies
    rw [State.detachLoses_of_applies applies] at none
    rw [ends]
    split
    · next disables =>
      rw [if_pos disables] at none
      rw [State.line_disableReception_of_none (line ▸ none), line]
    · exact line

theorem State.line_detachAccord_of_loses {r : Handle} {rec : FrameRecord} {x : Reception}
    (loses : s.detachLoses h = [r]) (hr : s.record r = some rec) (hx : s.line.reception = some x) :
    (s.detachAccord h).line =
      { s.line with
        reception := some { x with mode := .ignoring }
        counters :=
          if rec.exhausted = some true then { s.line.counters with noCells := bump s.line.counters.noCells }
          else { s.line.counters with lineDisabled := bump s.line.counters.lineDisabled } } := by
  rcases applies : s.detachApplies h with _ | q
  · exact nomatch loses.symm.trans (State.detachAccord_of_not_applies applies).1
  · obtain ⟨t, line, pool, ends⟩ := State.detachAccord_of_loses applies
    rw [State.detachLoses_of_applies applies] at loses
    rw [ends]
    split at loses
    · next disables =>
      obtain ⟨x', hx', hm⟩ := Line.storing_eq_singleton.1 loses
      obtain rfl : x = x' := Option.some.inj (hx.symm.trans hx')
      obtain ⟨d, stops, exhausted, plain⟩ := State.disableReception_of_storing (s := t) (line ▸ hx) hm
      have out : t.Exhausted r ↔ rec.exhausted = some true := by
        simp [State.Exhausted, State.record, pool, show s.pool.records[r] = some rec from hr]
      rw [if_pos disables, stops]
      split
      · next yes => simp only [exhausted (out.2 yes), line]
      · next no => simp only [plain (mt out.1 no), line]
    · exact nomatch loses

end

/-! ### The clean-up -/

theorem Pool.record_dropRef_of_ne (p : Pool) {r q : Handle} (hr : r ≠ q) : (p.dropRef q).records[r] = p.records[r] := by
  have apart : q.val ≠ r.val := fun e => hr (Fin.ext e.symm)
  unfold Pool.dropRef
  split
  · split <;> simp [Vector.getElem_set_ne, apart]
  · rfl

theorem Pool.record_dropRefs_of_not_mem (p : Pool) {r : Handle} {rs : List Handle} (absent : r ∉ rs) :
    (p.dropRefs rs).records[r] = p.records[r] := by
  induction rs generalizing p with
  | nil => rfl
  | cons q rs ih =>
    obtain ⟨hr, rest⟩ := not_or.1 (mt List.mem_cons.2 absent)
    exact (ih (p.dropRef q) rest).trans (p.record_dropRef_of_ne hr)

/-- The host's lists and its transmit side, once the table has been gone through. -/
theorem State.detachTransmit_detachHost (t : State) (h : HostId) :
    (t.detachHost h).detachTransmit h =
      { t with
        hosts := t.hosts.set h (t.host h).detach
        pool := t.pool.dropRefs (t.positionHandles h)
        arbiter :=
          { t.arbiter with
            hosts := t.arbiter.hosts.set h { queue := [], ring := [], nextSequence := none }
            path := t.arbiter.path.map (fun f => if f.sender = h then { f with discard := true } else f) } } := by
  simp only [State.detachHost, State.detachTransmit, State.dropRefs_eq, State.positionHandles, Pool.dropRefs_append]
  rfl

theorem State.positionHandles_detachTable (s : State) (h : HostId) :
    (s.detachTable h).positionHandles h = s.positionHandles h := by
  have quiet := s.quiet_detachTable h h
  have rx : ((s.detachTable h).host h).rxQueue = (s.host h).rxQueue := (congrArg HostCtx.rxQueue quiet :)
  have hold : ((s.detachTable h).host h).holdList = (s.host h).holdList := (congrArg HostCtx.holdList quiet :)
  have tx : (s.detachTable h).tx h = s.tx h := congrArg (fun a : Arbiter => a.hosts.get h) (s.detachTable_arbiter h)
  rw [State.positionHandles, rx, hold, tx, State.positionHandles]

section
variable (s : State) (h : HostId) {t : State}

theorem State.accordNotices_congr (same : t.accord = s.accord) (k : HostId) :
    t.accordNotices h k = s.accordNotices h k := by
  simp only [State.accordNotices, same]

theorem State.detachedAccord_congr (same : t.accord = s.accord) : t.detachedAccord h = s.detachedAccord h := by
  simp only [State.detachedAccord, same]

theorem State.detachLoses_congr (accord : t.accord = s.accord) (line : t.line = s.line) :
    t.detachLoses h = s.detachLoses h := by
  simp only [State.detachLoses, State.detachApplies, accord, line]

end

/-- What the clean-up leaves, whatever the host's own port holds. -/
theorem State.detachedFrom_cleanUp (s : State) (h : HostId) (p : Port) (cause : DetachCause) :
    ((s.setPort h p).cleanUp h cause).DetachedFrom s h cause := by
  let u := s.setPort h p
  obtain ⟨t, ht⟩ : ∃ t, u.detachTable h = t := ⟨_, rfl⟩
  have entry (i : Index) : t.entry i = (s.entry i).afterDetach h := ht ▸ u.entry_detachTable h i
  have tellsOffers {k : HostId} (hk : k ≠ h) := u.toldFrom_detachTable h hk
  have positions : t.positionHandles h = s.positionHandles h := ht ▸ u.positionHandles_detachTable h
  have pool : t.pool = s.pool := ht ▸ u.detachTable_pool h
  have line : t.line = s.line := ht ▸ u.detachTable_line h
  have accord : t.accord = s.accord := ht ▸ u.detachTable_accord h
  have arbiter : t.arbiter = s.arbiter := ht ▸ u.detachTable_arbiter h
  have ports : t.ports = u.ports := ht ▸ u.detachTable_ports h
  have tick : t.tick = s.tick := ht ▸ u.detachTable_tick h
  have resetting : t.resetting = s.resetting := ht ▸ u.detachTable_resetting h
  have resetCause : t.resetCause = s.resetCause := ht ▸ u.detachTable_resetCause h
  have pending : t.pending = s.pending := ht ▸ u.detachTable_pending h
  let v : State :=
    { t with
      hosts := t.hosts.set h (t.host h).detach
      pool := t.pool.dropRefs (t.positionHandles h)
      arbiter :=
        { t.arbiter with
          hosts := t.arbiter.hosts.set h { queue := [], ring := [], nextSequence := none }
          path := t.arbiter.path.map (fun f => if f.sender = h then { f with discard := true } else f) } }
  obtain ⟨w, hw⟩ : ∃ w, v.detachAccord h = w := ⟨_, rfl⟩
  have cleaned : u.cleanUp h cause = w.setDetachCause h cause := by
    rw [State.cleanUp, ht, State.detachTransmit_detachHost, ← hw]
  have keeps : { w with line := v.line, pool := v.pool, hosts := v.hosts, accord := v.accord } = v :=
    hw ▸ v.detachAccord_keeps h
  have told {k : HostId} (hk : k ≠ h) : w.ToldFrom s k (s.detachNotices h k) := by
    have offers := tellsOffers hk
    rw [ht] at offers
    have lists : v.ToldFrom u k _ := offers.congr (PerHost.get_set_ne _ _ hk) rfl
    have second := v.toldFrom_detachAccord hk
    rw [State.accordNotices_congr s h (t := v) accord, hw] at second
    exact (lists.trans second).since rfl rfl
  have host : w.host h = (t.host h).detach := by
    have detached : v.host h = (t.host h).detach := PerHost.get_set_self ..
    rw [← hw, v.host_detachAccord_self (by rw [detached]; rfl), detached]
  have arbiterW : w.arbiter = v.arbiter := (congrArg State.arbiter keeps :)
  have portsW : w.ports = u.ports := (congrArg State.ports keeps :).trans ports
  have loses : v.detachLoses h = s.detachLoses h := State.detachLoses_congr s h accord line
  have poolV : v.pool = s.pool.dropRefs (s.positionHandles h) := by simp only [v, pool, positions]
  rw [show (s.setPort h p).cleanUp h cause = w.setDetachCause h cause from cleaned]
  have tx (k : HostId) : w.tx k = if k = h then { queue := [], ring := [], nextSequence := none } else s.tx k := by
    rw [State.tx, arbiterW]
    simp only [v, PerHost.get_set, arbiter]
    rfl
  constructor
  case entries =>
    intro i
    have table : w.table = t.table := (congrArg State.table keeps :)
    exact (congrArg (fun x : Vector Entry Config.tableSize => x[i]) table).trans (entry i)
  case reach | lists | timers | reachFields | notices =>
    simp only [State.setDetachCause, State.host_setPort, host]
    simp [HostCtx.detach]
  case transmit =>
    simp only [State.setDetachCause, State.tx_setPort, tx, if_true]
    simp
  case path => exact (congrArg Arbiter.path arbiterW).trans (by simp only [v, arbiter])
  case lastGranted => exact (congrArg Arbiter.lastGranted arbiterW).trans (by simp only [v, arbiter])
  case cause => simp [State.setDetachCause]
  case others =>
    intro k hk
    refine ⟨(told hk).quiet, (tx k).trans (if_neg hk), ?_⟩
    refine (PerHost.get_set_ne _ _ hk).trans ((congrArg (PerHost.get · k) portsW).trans ?_)
    exact PerHost.get_set_ne _ _ hk
  case accord =>
    refine Eq.trans ?_ (State.detachedAccord_congr s h (t := v) accord)
    rw [← v.accord_detachAccord h, hw]
    rfl
  case told => exact fun k hk => (told hk).host
  case pool =>
    refine (congrArg State.pool hw.symm).trans ?_
    rw [v.pool_detachAccord, loses, poolV, State.pool_dropRefs, Pool.dropRefs_append]
  case line =>
    intro none
    refine (congrArg State.line hw.symm).trans ?_
    rw [v.line_detachAccord_of_none (loses.trans none)]
    exact line
  case reception =>
    intro r rec x lost hr hx absent
    have recorded : v.record r = some rec := by
      rw [State.record, poolV]
      exact (Pool.record_dropRefs_of_not_mem _ absent).trans hr
    refine (congrArg State.line hw.symm).trans ?_
    rw [State.line_detachAccord_of_loses (loses.trans lost) recorded ((congrArg Line.reception line).trans hx)]
    simp only [v, line]
  case clock =>
    obtain ⟨up, lastChange⟩ := v.clock_detachAccord h
    rw [hw] at up lastChange
    exact ⟨(congrArg State.tick keeps :).trans tick, up.trans (congrArg Line.up line),
      lastChange.trans (congrArg Line.lastChange line)⟩
  case device =>
    exact ⟨(congrArg State.resetting keeps :).trans resetting, (congrArg State.resetCause keeps :).trans resetCause,
      (congrArg State.pending keeps :).trans pending⟩

theorem State.setPort_port (s : State) (h : HostId) : s.setPort h (s.port h) = s := by
  simp [State.setPort, State.port]

theorem State.port_cleanUp (s : State) (h : HostId) (cause : DetachCause) :
    (s.cleanUp h cause).port h = { s.port h with lastDetach := some cause } := by
  have ports : ((((s.detachTable h).detachHost h).detachTransmit h).detachAccord h).ports = s.ports := by simp
  rw [State.cleanUp, State.setDetachCause, State.port_setPort_self, State.port, ports]
  rfl

/-- Settles O14: the clean-up of a DETACH, and that of a port reset after the transaction's abort. -/
theorem detachCleansUp : Obligations.DetachCleansUp := by
  unfold Obligations.DetachCleansUp
  refine ⟨fun s h tag heard => ⟨s.cleanUp h .command, heard.exec_accepted .detach tag rfl nofun rfl, ?_⟩,
    fun s h runs there => ⟨_, ?_, s.detachedFrom_cleanUp h { (s.port h).abort with held := true } .portReset, ?_⟩⟩
  · have cleaned := s.detachedFrom_cleanUp h (s.port h) .command
    rwa [State.setPort_port] at cleaned
  · have attached : (s.setPort h { (s.port h).abort with held := true }).attached h = true :=
      (HostCtx.attached_iff _).2 there
    refine (execPortReset_of_runs runs h).trans (congrArg _ ?_)
    simp only [portResetAsserted, attached, if_true]
  · rw [State.port_cleanUp, State.port_setPort_self]
    rfl

end Sys2Proof.Machine
end

section
/-! The moves of the part. Each step is a run of moves, each of which changes one host, one entry, one record or the
accord, and each law of the part is kept by every move. -/

namespace Sys2Proof.Machine

/-! ### One host's site: its context and its transmit side -/

/-- What the part keeps for one host. -/
structure Site where
  host : HostCtx
  tx : TxHost

/-- The site of host `h`. -/
def State.site (s : State) (h : HostId) : Site := ⟨s.host h, s.tx h⟩

/-- `s` with the site of host `h` replaced. -/
def State.setSite (s : State) (h : HostId) (σ : Site) : State := (s.setHost h σ.host).setTx h σ.tx

/-- The positions of a site that name record `r`. -/
def Site.positions (σ : Site) (r : Handle) : Nat :=
  σ.host.rxQueue.countP (fun p => p.handle = r) + σ.host.holdList.countP (fun p => p.handle = r) +
    σ.tx.queue.countP (fun p => p.handle = r)

/-- The cells of the frames that wait at a site, `cells` giving those of each record. -/
def Site.waiting (cells : Handle → Nat) (σ : Site) : Nat :=
  (σ.host.rxQueue.map (fun p => cells p.handle)).sum + (σ.host.holdList.map (fun p => cells p.handle)).sum

/-- The part of `State.CapacityLaw` that one host has by itself. -/
structure Site.Bounded (σ : Site) : Prop where
  rxQueue : σ.host.rxQueue.length ≤ Config.receiveQueueSize
  holdList : σ.host.holdList.length ≤ Config.holdListSize
  notices : σ.host.notices.length ≤ Config.noticeListSize
  lost : σ.host.lost ≤ Config.smallCountMax
  queue : σ.tx.queue.length ≤ Config.transmitQueueSize
  ring : σ.tx.ring.length ≤ Config.completionRingSize

/-- `State.ReachLaw` of one host. -/
structure Site.InReach (σ : Site) : Prop where
  depth : σ.host.depth.isSome = σ.host.reach.isAsleep
  alarm : σ.host.alarm.isSome → σ.host.reach = .asleep
  attempt : σ.host.attempt.isSome = (σ.host.reach == .waking || σ.host.reach == .wakeRest)
  attemptTimer : σ.host.attemptTimer.isSome = (σ.host.reach == .waking)
  restTimer : σ.host.restTimer.isSome = (σ.host.reach == .wakeRest)
  wake : σ.host.wake.isSome = σ.host.attached
  mask : σ.host.mask.isSome = σ.host.attached
  nextSequence : σ.tx.nextSequence.isSome = σ.host.attached

/-- The part of `State.AttachmentLaw` about the lists of one host. -/
structure Site.Bare (σ : Site) : Prop where
  rxQueue : σ.host.attached = false → σ.host.rxQueue = []
  holdList : σ.host.attached = false → σ.host.holdList = []
  charge : σ.host.attached = false → σ.host.charge = 0
  notices : σ.host.attached = false → σ.host.notices = []
  queue : σ.host.attached = false → σ.tx.queue = []
  ring : σ.host.attached = false → σ.tx.ring = []

/-- `State.HeldLaw` of one host. -/
def Site.Held (σ : Site) : Prop :=
  σ.host.reach = .awake ∨ σ.host.reach = .dozing → σ.host.holdList ≠ [] →
    σ.host.rxQueue.length = Config.receiveQueueSize

/-- A change of one host's site from `σ` to `τ` that keeps every law of a host but R110's about held frames, the
references in hand going from `l` to `m`. -/
structure Site.Moved (cells : Handle → Nat) (σ : Site) (l : List Handle) (τ : Site) (m : List Handle) : Prop where
  attached : σ.host.attached = true → τ.host.attached = true
  refs : ∀ r, τ.positions r + m.count r = σ.positions r + l.count r
  charge : σ.host.charge = σ.waiting cells → τ.host.charge = τ.waiting cells
  ring : τ.tx.ring.length ≤ σ.tx.ring.length
  bounded : σ.Bounded → τ.Bounded
  inReach : σ.InReach → τ.InReach
  bare : σ.Bare → τ.Bare

/-- A change of one host's site that keeps every law of a host. -/
structure Site.Next (cells : Handle → Nat) (σ : Site) (l : List Handle) (τ : Site) (m : List Handle) : Prop
    extends Site.Moved cells σ l τ m where
  held : σ.Bounded → σ.Bare → σ.Held → τ.Held

/-- Changes one after the other. -/
theorem Site.Moved.trans {cells : Handle → Nat} {σ τ υ : Site} {l m n : List Handle} (first : σ.Moved cells l τ m)
    (second : τ.Moved cells m υ n) : σ.Moved cells l υ n where
  attached := second.attached ∘ first.attached
  refs r := by
    have := first.refs r
    have := second.refs r
    omega
  charge := second.charge ∘ first.charge
  ring := second.ring.trans first.ring
  bounded := second.bounded ∘ first.bounded
  inReach := second.inReach ∘ first.inReach
  bare := second.bare ∘ first.bare

/-! ### Hosts named by an entry and by a proposal -/

/-- Whether a claim names a host, as its owner or as the target of its offer. -/
def Claim.names (c : Claim) (h : HostId) : Prop := c.owner = h ∨ ∃ o ∈ c.offer, o.target = h

/-- Whether an entry names a host, in its claim or as a member of its group. -/
def Entry.names (e : Entry) (h : HostId) : Prop :=
  match e.use with
  | .free => False
  | .unicast c => c.names h
  | .group g => g.members.get h = true

/-- Whether the accord names a host: as the proposer or a voter of a pending proposal. -/
def Accord.names (a : Accord) (h : HostId) : Prop :=
  ∃ q ∈ a.proposal, q.proposer = h ∨ (q.votes.get h).isSome = true

/-! ### The moves -/

/-- What an event holds between two of its moves: the references that no position or activity has at the moment, the
host that is owed a completion, and the host whose detach goes on. -/
structure Hand where
  refs : List Handle
  owed : Option HostId
  leaving : Option HostId

/-- Nothing in hand, as before and after every step. -/
def Hand.empty : Hand := ⟨[], none, none⟩

/-- `t` agrees with `s` wherever the laws look, but at the ports. -/
structure State.Alike (t s : State) : Prop where
  table : t.table = s.table
  accord : t.accord = s.accord
  pool : t.pool = s.pool
  hosts : t.hosts = s.hosts
  sides : t.arbiter.hosts = s.arbiter.hosts
  path : t.arbiter.path = s.arbiter.path
  receives : ∀ r, t.receivesInto r = s.receivesInto r

/-- `t` has every block of the part, but the ports, as device reset leaves it. -/
structure State.Cleared (t : State) : Prop where
  table : t.table = State.reset.table
  accord : t.accord = State.reset.accord
  pool : t.pool = State.reset.pool
  hosts : t.hosts = State.reset.hosts
  arbiter : t.arbiter = State.reset.arbiter
  reception : t.line.reception = none

/-- The frame of host `h` on the path marked for discard (R155). -/
def State.discardOf (s : State) (h : HostId) : State :=
  s.setPath (s.arbiter.path.map (fun f => if f.sender = h then { f with discard := true } else f))

/-- The site of a host after its detach. -/
def HostCtx.left (c : HostCtx) : Site := ⟨c.detach, { queue := [], ring := [], nextSequence := none }⟩

/-- One move, from a state with what is in hand to another. -/
inductive State.Move : State × Hand → State × Hand → Prop
  | idle {s t : State} {g : Hand} (alike : t.Alike s) : Move (s, g) (t, g)
  | reset {s t : State} (cleared : t.Cleared) : Move (s, .empty) (t, .empty)
  /-- A change of one host's site. -/
  | site {s : State} {g : Hand} {h : HostId} {τ : Site} {m : List Handle}
      (next : (s.site h).Next s.cellCount g.refs τ m) : Move (s, g) (s.setSite h τ, { g with refs := m })
  /-- The frame of a host on the path is marked for discard. -/
  | discard {s : State} {g : Hand} {h : HostId} : Move (s, g) (s.discardOf h, g)
  /-- A host that no entry names is detached, its frame on the path marked for discard. -/
  | detach {s : State} {g : Hand} {h : HostId} (unnamed : ∀ i, ¬ (s.entry i).names h)
      (discarded : ∀ f ∈ s.arbiter.path, f.sender = h → f.discard = true) (owed : g.owed = none)
      (leaving : g.leaving = none) :
      Move (s, g) (s.setSite h (s.host h).left, ⟨s.positionHandles h ++ g.refs, none, some h⟩)
  /-- A host's detach ends, when the accord no longer names it. -/
  | leave {s : State} {g : Hand} {h : HostId} (leaving : g.leaving = some h) (unnamed : ¬ s.accord.names h) :
      Move (s, g) (s, { g with leaving := none })
  /-- A reference is taken on a record of which one is in hand. -/
  | take {s : State} {g : Hand} {r : Handle} (mem : r ∈ g.refs) :
      Move (s, g) (s.takeRef r, { g with refs := r :: g.refs })
  | drop {s : State} {r : Handle} {rs : List Handle} {o l : Option HostId} :
      Move (s, ⟨r :: rs, o, l⟩) (s.dropRef r, ⟨rs, o, l⟩)
  /-- A record changed in what is no chain and no reference count. -/
  | record {s : State} {g : Hand} {r : Handle} {rec rec' : FrameRecord} (hr : s.record r = some rec)
      (chain : rec'.chain = rec.chain) (refs : rec'.refs = rec.refs) : Move (s, g) (s.setRecord r (some rec'), g)
  /-- A reception begins in a record just taken. -/
  | receive {s : State} {g : Hand} {r : Handle} {rest : List Handle} (free : s.pool.freeRecords = r :: rest)
      (silent : s.line.reception = none) :
      Move (s, g) ((s.takeRecord r rest s.receivingRecord).setReception (some (.begin (.storing r))), g)
  /-- A byte of the reception is stored. -/
  | store {s : State} {g : Hand} {r : Handle} {rec : FrameRecord} {k : Nat} {b : Byte}
      (receiving : s.receivesInto r = true)
      (hr : s.record r = some rec) : Move (s, g) ({ s with pool := s.pool.storeByte r rec k b }, g)
  /-- The receiver stops storing, and its reference is in hand. -/
  | stop {s : State} {g : Hand} {r : Handle} {y : Option Reception} (receiving : s.receivesInto r = true)
      (quiet : ∀ z ∈ y, z.mode = .ignoring) : Move (s, g) (s.setReception y, { g with refs := r :: g.refs })
  /-- A frame submitted is stored in a record just taken. -/
  | submit {s : State} {g : Hand} {h : HostId} {r : Handle} {rest : List Handle} {frame : List Byte}
      (free : s.pool.freeRecords = r :: rest) :
        Move (s, g) (s.storeFrame h r rest frame, { g with refs := r :: g.refs })
  /-- A host eligible for a grant is owed a completion. -/
  | owe {s : State} {g : Hand} {h : HostId} (place : (s.tx h).ring.length < Config.completionRingSize)
      (queue : (s.tx h).queue ≠ []) : Move (s, g) (s, { g with owed := some h })
  /-- The host that is owed a completion is given it. -/
  | complete {s : State} {g : Hand} {h : HostId} {c : Completion} (owed : g.owed = some h)
      (idle : s.arbiter.path = none) :
      Move (s, g) (s.setTx h { s.tx h with ring := (s.tx h).ring ++ [c] }, { g with owed := none })
  /-- A frame in hand goes to the path. -/
  | send {s : State} {f : OnPath} {rs : List Handle} {l : Option HostId} (idle : s.arbiter.path = none) :
      Move (s, ⟨f.handle :: rs, some f.sender, l⟩) (s.setPath (some f), ⟨rs, none, l⟩)
  /-- The frame on the path leaves it, its reference dropped, and its sender is owed a completion unless it is marked
  for discard. -/
  | unsend {s : State} {g : Hand} {f : OnPath} (busy : s.arbiter.path = some f) :
      Move (s, g) ((s.setPath none).dropRef f.handle, { g with owed := if f.discard then none else some f.sender })
  /-- An entry replaced by one that keeps the laws of the table, and that names attached hosts alone beside those it
  named. -/
  | entry {s : State} {g : Hand} {i : Index} {e : Entry} (lawful : s.AccordLaw → s.TableLaw → e.use.Lawful)
      (address : s.TableLaw → ∀ a, e.address? = some a → ∀ j, (s.entry j).address? = some a → j = i)
      (names : ∀ k, e.names k → (s.entry i).names k ∨ s.attached k = true) : Move (s, g) (s.setEntry i e, g)
  | accord {s : State} {g : Hand} {a : Accord} (lawful : s.AccordLaw → (s.setAccord a).AccordLaw)
      (names : ∀ k, a.names k → s.accord.names k ∨ s.attached k = true) : Move (s, g) (s.setAccord a, g)
  | tick {s : State} {g : Hand} : Move (s, g) (ticked s, g)

/-- A run of moves. -/
def State.Moves : State × Hand → State × Hand → Prop := Relation.ReflTransGen State.Move

theorem State.Move.run {x y : State × Hand} (m : State.Move x y) : State.Moves x y := .single m

theorem State.Moves.refl {x : State × Hand} : State.Moves x x := Relation.ReflTransGen.refl

theorem State.Moves.then {x y z : State × Hand} (xy : State.Moves x y) (yz : State.Moves y z) : State.Moves x z :=
  .trans xy yz

/-- What every move keeps, every run of moves keeps. -/
theorem State.Moves.keeps {P : State × Hand → Prop} (kept : ∀ x y, State.Move x y → P x → P y) {x y : State × Hand}
    (run : State.Moves x y) (hx : P x) : P y := by
  induction run with
  | refl => exact hx
  | tail _ move ih => exact kept _ _ move ih

/-- A fold is a run of moves when each of its steps is. -/
theorem State.moves_foldl {α : Type} {f : State → α → State} {g : Hand}
    (step : ∀ s a, State.Moves (s, g) (f s a, g)) (as : List α) (s : State) : State.Moves (s, g) (as.foldl f s, g) := by
  induction as generalizing s with
  | nil => exact .refl
  | cons a as ih => exact (step s a).then (ih (f s a))

/-! ### Changes of one host -/

@[simp] theorem State.setTx_tx (s : State) (h : HostId) : s.setTx h (s.tx h) = s := by
  simp [State.setTx, State.tx]

/-- A change of a host's context that leaves its lists of frames, its charge and its attachment alone. -/
structure HostCtx.Calm (c d : HostCtx) : Prop where
  rxQueue : d.rxQueue = c.rxQueue
  holdList : d.holdList = c.holdList
  charge : d.charge = c.charge
  attached : d.attached = c.attached
  notices : c.notices.length ≤ Config.noticeListSize → d.notices.length ≤ Config.noticeListSize
  lost : c.lost ≤ Config.smallCountMax → d.lost ≤ Config.smallCountMax
  bare : d.attached = false → c.notices = [] → d.notices = []
  inReach : ∀ x : TxHost, Site.InReach ⟨c, x⟩ → Site.InReach ⟨d, x⟩

/-- A change that, besides, leaves no host awake that was not. -/
structure HostCtx.Quiet (c d : HostCtx) : Prop extends HostCtx.Calm c d where
  awake : d.reach = .awake ∨ d.reach = .dozing → c.reach = .awake ∨ c.reach = .dozing

theorem HostCtx.Calm.moved {c d : HostCtx} (calm : c.Calm d) (cells : Handle → Nat) (x : TxHost) (l : List Handle) :
    Site.Moved cells ⟨c, x⟩ l ⟨d, x⟩ l where
  attached there := calm.attached.trans there
  refs r := by simp only [Site.positions, calm.rxQueue, calm.holdList]
  charge paid := by
    simp only [Site.waiting, calm.rxQueue, calm.holdList, calm.charge] at paid ⊢
    exact paid
  ring := le_rfl
  bounded fits :=
    ⟨calm.rxQueue ▸ fits.rxQueue, calm.holdList ▸ fits.holdList, calm.notices fits.notices, calm.lost fits.lost,
      fits.queue, fits.ring⟩
  inReach := calm.inReach x
  bare none := by
    have before (gone : d.attached = false) : c.attached = false := calm.attached.symm.trans gone
    exact ⟨fun gone => calm.rxQueue.trans (none.rxQueue (before gone)),
      fun gone => calm.holdList.trans (none.holdList (before gone)),
      fun gone => calm.charge.trans (none.charge (before gone)),
      fun gone => calm.bare gone (none.notices (before gone)), fun gone => none.queue (before gone),
      fun gone => none.ring (before gone)⟩

theorem HostCtx.Quiet.next {c d : HostCtx} (quiet : c.Quiet d) (cells : Handle → Nat) (x : TxHost) (l : List Handle) :
    Site.Next cells ⟨c, x⟩ l ⟨d, x⟩ l where
  toMoved := quiet.moved cells x l
  held _ _ full awake frames := by
    simp only [quiet.rxQueue, quiet.holdList] at frames ⊢
    exact full (quiet.awake awake) frames

/-- A host's context changed, its transmit side as it is. -/
theorem State.moves_setHost {s : State} {g : Hand} {h : HostId} {c : HostCtx} {m : List Handle}
    (next : Site.Next s.cellCount ⟨s.host h, s.tx h⟩ g.refs ⟨c, s.tx h⟩ m) :
    State.Moves (s, g) (s.setHost h c, { g with refs := m }) := by
  have same : s.setSite h ⟨c, s.tx h⟩ = s.setHost h c := (s.setHost h c).setTx_tx h
  exact same ▸ (State.Move.site next).run

theorem State.moves_setHost_quiet {s : State} {h : HostId} {c : HostCtx} (quiet : (s.host h).Quiet c) (g : Hand) :
    State.Moves (s, g) (s.setHost h c, g) :=
  State.moves_setHost (quiet.next s.cellCount (s.tx h) g.refs)

/-- A host's transmit side changed, its context as it is. -/
theorem State.moves_setTx {s : State} {g : Hand} {h : HostId} {x : TxHost} {m : List Handle}
    (next : Site.Next s.cellCount ⟨s.host h, s.tx h⟩ g.refs ⟨s.host h, x⟩ m) :
    State.Moves (s, g) (s.setTx h x, { g with refs := m }) := by
  have same : s.setSite h ⟨s.host h, x⟩ = s.setTx h x := congrArg (State.setTx · h x) (s.setHost_host h)
  exact same ▸ (State.Move.site next).run

/-- A change of a context in fields that no law looks at. -/
theorem HostCtx.quiet_of_same {c d : HostCtx} (rx : d.rxQueue = c.rxQueue) (hold : d.holdList = c.holdList)
    (charge : d.charge = c.charge) (reach : d.reach = c.reach) (notices : d.notices = c.notices)
        (lost : d.lost = c.lost)
    (depth : d.depth.isSome = c.depth.isSome) (alarm : d.alarm.isSome = c.alarm.isSome)
    (attempt : d.attempt.isSome = c.attempt.isSome) (attemptTimer : d.attemptTimer.isSome = c.attemptTimer.isSome)
    (restTimer : d.restTimer.isSome = c.restTimer.isSome) (wake : d.wake.isSome = c.wake.isSome)
    (mask : d.mask.isSome = c.mask.isSome) : c.Quiet d := by
  have att : d.attached = c.attached := by simp only [HostCtx.attached, reach]
  refine ⟨⟨rx, hold, charge, att, fun n => notices ▸ n, fun n => lost ▸ n, fun _ n => notices ▸ n, fun x law => ?_⟩,
    fun a => reach ▸ a⟩
  constructor <;> simp only [depth, alarm, attempt, attemptTimer, restTimer, wake, mask, reach, att]
  exacts [law.depth, law.alarm, law.attempt, law.attemptTimer, law.restTimer, law.wake, law.mask, law.nextSequence]

theorem State.moves_countHost (s : State) (g : Hand) (h : HostId) (f : HostCounters → HostCounters) :
    State.Moves (s, g) (s.countHost h f, g) :=
  State.moves_setHost_quiet (s := s) (h := h) (c := { s.host h with counters := f (s.host h).counters })
    (HostCtx.quiet_of_same rfl rfl rfl rfl rfl rfl rfl rfl rfl rfl rfl rfl rfl) g

/-! ### Notices -/

theorem HostCtx.quiet_addNotice {c : HostCtx} (there : c.attached = true) (n : Notice) : c.Quiet (c.addNotice n) := by
  unfold HostCtx.addNotice
  split
  · next room =>
    refine ⟨⟨rfl, rfl, rfl, rfl, fun _ => ?_, id, (nomatch there.symm.trans ·), fun x law => { law with }⟩, id⟩
    simpa using room
  · refine ⟨⟨rfl, rfl, rfl, rfl, id, fun l => ?_, fun _ => id, fun x law => { law with }⟩, id⟩
    simp only [bumpSmall]
    split <;> omega

theorem State.moves_notify (s : State) (g : Hand) (h : HostId) (r : Report) :
    State.Moves (s, g) (s.notify h r, g) := by
  unfold State.notify
  split
  · next there => exact State.moves_setHost_quiet (HostCtx.quiet_addNotice there _) g
  · exact .refl

theorem State.moves_notifyAll (s : State) (g : Hand) (hs : List HostId) (r : Report) :
    State.Moves (s, g) (s.notifyAll hs r, g) :=
  State.moves_foldl (fun s h => s.moves_notify g h r) hs s

/-! ### Changes that no law sees -/

theorem State.moves_countDevice (s : State) (g : Hand) (f : DeviceCounters → DeviceCounters) :
    State.Moves (s, g) (s.countDevice f, g) :=
  (State.Move.idle (s := s) (t := s.countDevice f) ⟨rfl, rfl, rfl, rfl, rfl, rfl, fun _ => rfl⟩).run

theorem State.moves_setPort (s : State) (g : Hand) (h : HostId) (p : Port) :
    State.Moves (s, g) (s.setPort h p, g) :=
  (State.Move.idle (s := s) (t := s.setPort h p) ⟨rfl, rfl, rfl, rfl, rfl, rfl, fun _ => rfl⟩).run

/-- The path written as it stands already. -/
theorem State.moves_setPath_same {s : State} {p : Option OnPath} (same : s.arbiter.path = p) (g : Hand) :
    State.Moves (s, g) (s.setPath p, g) :=
  (State.Move.idle (s := s) (t := s.setPath p) ⟨rfl, rfl, rfl, rfl, rfl, same.symm, fun _ => rfl⟩).run

end Sys2Proof.Machine
end

section
/-! The moves of the station table: the entries that each request, each expiry and each pass of a detach changes. -/

namespace Sys2Proof.Machine

/-! ### Lawful changes of a claim (R1) -/

section
variable {c : Claim}

/-- A claim whose lease is started is lawful in LIVE, whatever state it came from. -/
theorem Claim.Lawful.startLease (law : c.Lawful) {n : Nat} (small : n ≤ Config.smallCountMax) :
    ({ c.startLease with collisions := some n } : Claim).Lawful :=
  { law with
    stageTimer_present := rfl
    stageTimer_range := nofun
    leaseRemaining_present := law.reload_present
    leaseRemaining_range := fun n hn => (law.reload_range n hn).2
    activitySeen_present := by
      show (if c.mode = .activity then some false else none : Option Bool).isSome = _
      split <;> simp_all [Claim.startLease]
    graceRemaining_present := rfl
    graceRemaining_range := nofun
    lapsing_leased := nofun
    offer_bound := fun _ => rfl
    collisions_present := rfl
    collisions_range := by rintro m ⟨⟩; exact small }

theorem Claim.startLease_eq_of_collisions {n : Nat} (hn : c.collisions = some n) :
    c.startLease = { c.startLease with collisions := some n } := by
  rw [← hn]
  rfl

/-- A bound claim stays lawful when its lease is started again. -/
theorem Claim.Lawful.renew (law : c.Lawful) (bound : c.bound = true) : c.startLease.Lawful := by
  obtain ⟨n, hn⟩ := Option.isSome_iff_exists.1 (law.collisions_present.trans bound)
  rw [Claim.startLease_eq_of_collisions hn]
  exact law.startLease (law.collisions_range n hn)

theorem Claim.Lawful.withAction (law : c.Lawful) (a : SleepAction) : ({ c with action := a } : Claim).Lawful :=
  { law with }

theorem Claim.Lawful.withHits (law : c.Lawful) : ({ c with hits := bump c.hits } : Claim).Lawful :=
  { law with
    hits_range := by
      have range := law.hits_range
      simp only [bump]
      split <;> omega }

theorem Claim.Lawful.withoutOffer (law : c.Lawful) : ({ c with offer := none } : Claim).Lawful :=
  { law with offer_bound := nofun, offer_range := nofun }

theorem Claim.Lawful.withOffer (law : c.Lawful) (bound : c.bound = true) {o : Offer} (target : o.target ≠ c.owner)
    (range : o.remaining ≤ 255) : ({ c with offer := some o } : Claim).Lawful :=
  { law with offer_bound := fun _ => bound, offer_range := by rintro _ ⟨⟩; exact ⟨target, range⟩ }

theorem Claim.Lawful.withCollisions (law : c.Lawful) (bound : c.bound = true) {n : Nat}
    (small : n ≤ Config.smallCountMax) : ({ c with collisions := some n } : Claim).Lawful :=
  { law with collisions_present := bound.symm, collisions_range := by rintro _ ⟨⟩; exact small }

theorem Claim.Lawful.withActivity (law : c.Lawful) (live : c.state = .live) (mode : c.mode = .activity) :
    ({ c with activitySeen := some true } : Claim).Lawful :=
  { law with activitySeen_present := by simp [live, mode] }

/-- The claim that a target takes over. -/
theorem Claim.Lawful.takenOver (law : c.Lawful) (bound : c.bound = true) (h : HostId) : (c.handOver h).Lawful := by
  have taken : ({ c with owner := h, offer := none } : Claim).Lawful :=
    { law with offer_bound := nofun, offer_range := nofun }
  unfold Claim.handOver
  split
  · exact taken.renew bound
  · exact taken

/-- A staged claim goes to a staged state that has its timer. -/
theorem Claim.Lawful.startHold (law : c.Lawful) (staged : c.state.staged = true) {st : ClaimState}
    (next : st.staged = true) {n : Nat} (range : n ≤ 255) : (c.startHold st n).Lawful := by
  have unbound (x : ClaimState) (hx : x.staged = true) : (x = .live) = False ∧ (x = .lapsing) = False := by
    cases x <;> simp_all [ClaimState.staged]
  have old := unbound _ staged
  have new := unbound _ next
  have same : (c.startHold st n).bound = c.bound := by simp [Claim.bound, Claim.startHold, old, new]
  exact
    { law with
      stageTimer_present := next.symm
      stageTimer_range := by rintro _ ⟨⟩; exact range
      leaseRemaining_present := by
        simpa [Claim.startHold, beq_eq_decide, old, new] using law.leaseRemaining_present
      activitySeen_present := by
        simpa [Claim.startHold, beq_eq_decide, old, new] using law.activitySeen_present
      graceRemaining_present := by
        simpa [Claim.startHold, beq_eq_decide, old, new] using law.graceRemaining_present
      lapsing_leased := fun lapsing => (new.2.mp lapsing).elim
      offer_bound := fun o => same.trans (law.offer_bound o)
      collisions_present := law.collisions_present.trans same.symm }

/-- A LIVE claim with a lease goes to LAPSING with its grace. -/
theorem Claim.Lawful.lapse (law : c.Lawful) (live : c.state = .live) {m : Nat} (leased : c.leaseRemaining = some m)
    {n : Nat} (range : n ≤ 255) :
    ({ c with state := .lapsing, leaseRemaining := none, activitySeen := none, graceRemaining := some n } :
      Claim).Lawful := by
  have bound : c.bound = true := by simp [Claim.bound, live]
  exact
    { law with
      stageTimer_present := law.stageTimer_present.trans (by rw [live]; rfl)
      leaseRemaining_present := rfl
      leaseRemaining_range := nofun
      activitySeen_present := rfl
      graceRemaining_present := rfl
      graceRemaining_range := by rintro _ ⟨⟩; exact range
      lapsing_leased := fun _ => by
        have present := law.leaseRemaining_present
        rw [leased, live] at present
        simpa using present.symm
      offer_bound := fun _ => rfl
      collisions_present := law.collisions_present.trans bound }

theorem lowerTimer_isSome (t : Option Nat) : (lowerTimer t).isSome = t.isSome := Option.isSome_map ..

theorem lowerTimer_range {t : Option Nat} {b : Nat} (range : ∀ n ∈ t, n ≤ b) : ∀ n ∈ lowerTimer t, n ≤ b := by
  intro n hn
  obtain ⟨m, hm, rfl⟩ := Option.map_eq_some_iff.1 hn
  exact (Nat.sub_le ..).trans (range m hm)

theorem Claim.Lawful.tick (law : c.Lawful) : c.tick.Lawful :=
  { law with
    stageTimer_present := (lowerTimer_isSome _).trans law.stageTimer_present
    stageTimer_range := lowerTimer_range law.stageTimer_range
    leaseRemaining_present := (lowerTimer_isSome _).trans law.leaseRemaining_present
    leaseRemaining_range := lowerTimer_range law.leaseRemaining_range
    graceRemaining_present := (lowerTimer_isSome _).trans law.graceRemaining_present
    graceRemaining_range := lowerTimer_range law.graceRemaining_range
    offer_bound := fun o => law.offer_bound (by simpa [Claim.tick] using o)
    offer_range := by
      intro o ho
      obtain ⟨p, hp, rfl⟩ := Option.map_eq_some_iff.1 ho
      exact ⟨(law.offer_range p hp).1, (Nat.sub_le ..).trans (law.offer_range p hp).2⟩ }

/-- The claim that an accepted STAGE makes. -/
theorem lawful_stagedClaim {cfg : ConfigRecord} (cl : cfg.Lawful) {a : Address} (unicast : isGroupAddress a = false)
    (nonzero : a ≠ 0) {act mode : Byte} {word : Word16} {action : SleepAction} {m : LeaseMode} {reload : Option Nat}
    (settings : stageSettings act mode word = some (action, m, reload)) (h : HostId) :
    (stagedClaim cfg h a action m reload).Lawful := by
  have leased : reload.isSome = (m != .pinned) ∧ ∀ n ∈ reload, 1 ≤ n ∧ n ≤ 65535 := by
    unfold stageSettings at settings
    split at settings
    · split at settings
      · cases settings
        exact ⟨rfl, nofun⟩
      · cases settings
    · next notPinned _ =>
      split at settings
      · cases settings
      · next hw =>
        cases settings
        have range := word.isLt
        refine ⟨(bne_iff_ne.2 ?_).symm, ?_⟩
        · rintro rfl
          simp_all
        · rintro _ ⟨⟩
          have : word.toNat ≠ 0 := fun z => hw (BitVec.eq_of_toNat_eq z)
          omega
    · cases settings
  have hp := cl.probeWindow
  obtain ⟨-, hs⟩ := cl.stageHold
  constructor <;> simp only [stagedClaim]
  case address_unicast => exact unicast
  case address_nonzero => exact nonzero
  case reload_present => exact leased.1
  case reload_range => exact leased.2
  case stageTimer_range => rintro n ⟨⟩; split <;> assumption
  case hits_range => exact Nat.zero_le _
  case leaseRemaining_range | graceRemaining_range | offer_range | collisions_range => exact nofun
  all_goals split <;> simp [ClaimState.staged, Claim.bound]

end

/-! ### Changes of one entry -/

section
variable {s : State} {g : Hand} {i : Index}

theorem Entry.names_of_unicast {e : Entry} {c : Claim} (hu : e.use = .unicast c) (k : HostId) :
    e.names k ↔ c.names k := by
  simp only [Entry.names, hu]

theorem Entry.names_of_group {e : Entry} {x : Group} (hu : e.use = .group x) (k : HostId) :
    e.names k ↔ x.members.get k = true := by
  simp only [Entry.names, hu]

/-- An entry that keeps its address. -/
theorem State.moves_setEntry {e : Entry} (address : e.address? = (s.entry i).address?)
    (lawful : s.AccordLaw → (s.entry i).use.Lawful → e.use.Lawful)
    (names : ∀ k, e.names k → (s.entry i).names k ∨ s.attached k = true) : State.Moves (s, g) (s.setEntry i e, g) :=
  (State.Move.entry (fun accord table => lawful accord (table.entries i))
    (fun table a ha j hj => table.unique j i (by rw [hj]; nofun) (by rw [hj, ← address, ha])) names).run

theorem State.moves_freeEntry : State.Moves (s, g) (s.freeEntry i, g) :=
  (State.Move.entry (s := s) (i := i) (e := { s.entry i with use := .free }) (fun _ _ => trivial)
    (fun _ _ ha => nomatch ha) (fun _ hk => False.elim hk)).run

/-- A claim that stays a claim of its address. -/
theorem State.moves_setUnicast {c d : Claim} {gen : Word16} (hu : (s.entry i).use = .unicast c)
    (address : d.address = c.address) (lawful : s.AccordLaw → c.Lawful → d.Lawful)
    (names : ∀ k, d.names k → c.names k ∨ s.attached k = true) :
    State.Moves (s, g) (s.setEntry i ⟨gen, .unicast d⟩, g) := by
  refine State.moves_setEntry ?_ (fun accord law => lawful accord (by rw [hu] at law; exact law)) fun k hk => ?_
  · simp only [Entry.address?, hu, address]
  · exact (names k hk).imp_left (Entry.names_of_unicast hu k).2

theorem State.moves_setClaim {c d : Claim} (hu : (s.entry i).use = .unicast c) (address : d.address = c.address)
    (lawful : s.AccordLaw → c.Lawful → d.Lawful) (names : ∀ k, d.names k → c.names k ∨ s.attached k = true) :
    State.Moves (s, g) (s.setClaim i d, g) :=
  State.moves_setUnicast hu address lawful names

/-- A claim that names whom it named. -/
theorem State.moves_setClaim_same {c d : Claim} (hu : (s.entry i).use = .unicast c) (address : d.address = c.address)
    (owner : d.owner = c.owner) (offer : d.offer = c.offer) (lawful : s.AccordLaw → c.Lawful → d.Lawful) :
    State.Moves (s, g) (s.setClaim i d, g) :=
  State.moves_setClaim hu address lawful fun k hk => .inl (by rw [Claim.names, owner, offer] at hk; exact hk)

/-- A group that stays a group of its address. -/
theorem State.moves_setGroup {x y : Group} (hu : (s.entry i).use = .group x) (address : y.address = x.address)
    (lawful : x.Lawful → y.Lawful) (names : ∀ k, y.members.get k = true → x.members.get k = true ∨
        s.attached k = true) :
    State.Moves (s, g) (s.setGroup i y, g) := by
  refine State.moves_setEntry ?_ (fun _ law => lawful (by rw [hu] at law; exact law)) fun k hk => ?_
  · simp only [Entry.address?, hu, address]
  · exact (names k hk).imp_left (Entry.names_of_group hu k).2

theorem State.moves_endClaim (c : Claim) : State.Moves (s, g) (s.endClaim i c, g) := by
  unfold State.endClaim
  split
  · exact (s.moves_notify g _ _).then State.moves_freeEntry
  · exact State.moves_freeEntry

theorem State.moves_clearOffer {c : Claim} (hu : (s.entry i).use = .unicast c) :
    State.Moves (s, g) (s.setClaim i { c with offer := none }, g) :=
  State.moves_setClaim hu rfl (fun _ law => law.withoutOffer) fun _ hk => .inl (.inl (hk.resolve_right (by simp)))

theorem State.moves_notifyOffer (party other : HostId) (o : OfferOutcome) :
    State.Moves (s, g) (s.notifyOffer party other i o, g) := s.moves_notify g _ _

theorem State.moves_removeMember {x : Group} (hu : (s.entry i).use = .group x) (h : HostId) :
    State.Moves (s, g) (s.removeMember i x h, g) := by
  simp only [State.removeMember]
  split
  · exact State.moves_freeEntry
  · next some =>
    refine State.moves_setGroup hu rfl (fun law => { law with member := by simpa using some }) fun k hk => .inl ?_
    by_cases e : k = h
    · subst e
      simp at hk
    · rwa [PerHost.get_set_ne _ _ e] at hk

theorem State.use_of_claim? {e : Entry} {c : Claim} (hc : e.claim? = some c) : e.use = .unicast c := by
  unfold Entry.claim? at hc
  split at hc <;> simp_all

theorem State.use_of_ownClaim {h : HostId} {w : Word16} {c : Claim} (hc : s.ownClaim h i w = some c) :
    (s.entry i).use = .unicast c := (State.ownClaim_some.1 hc).use

theorem State.use_of_claimAt {a : Address} {c : Claim} (hc : s.claimAt a = some (i, c)) :
    (s.entry i).use = .unicast c := by
  unfold State.claimAt at hc
  split at hc
  · obtain ⟨d, hd, e⟩ := Option.map_eq_some_iff.1 hc
    cases e
    exact State.use_of_claim? hd
  · cases hc

theorem State.use_of_groupAt {a : Address} {x : Group} (hx : s.groupAt a = some (i, x)) :
    (s.entry i).use = .group x := by
  unfold State.groupAt at hx
  split at hx
  · obtain ⟨y, hy, e⟩ := Option.map_eq_some_iff.1 hx
    cases e
    unfold Entry.group? at hy
    split at hy <;> simp_all
  · cases hx

/-- An address that a lawful table holds for no claim is held by no entry, when it is no group address (R2). -/
theorem State.unheld_of_claimAt_none (law : s.TableLaw) {a : Address} (unicast : isGroupAddress a = false)
    (none : s.claimAt a = Option.none) (j : Index) : (s.entry j).address? ≠ some a := by
  intro held
  have lawful := law.entries j
  cases hu : (s.entry j).use with
  | free => simp [Entry.address?, hu] at held
  | unicast c => exact (State.claimAt_none law).1 none j c hu (by simpa [Entry.address?, hu] using held)
  | group x =>
    rw [hu] at lawful
    have same : x.address = a := by simpa [Entry.address?, hu] using held
    rw [← same, lawful.address_group] at unicast
    exact nomatch unicast

theorem State.unheld_of_groupAt_none (law : s.TableLaw) {a : Address} (group : isGroupAddress a = true)
    (none : s.groupAt a = Option.none) (j : Index) : (s.entry j).address? ≠ some a := by
  intro held
  have lawful := law.entries j
  cases hu : (s.entry j).use with
  | free => simp [Entry.address?, hu] at held
  | group x => exact (State.groupAt_none law).1 none j x hu (by simpa [Entry.address?, hu] using held)
  | unicast c =>
    rw [hu] at lawful
    have same : c.address = a := by simpa [Entry.address?, hu] using held
    rw [← same, lawful.address_unicast] at group
    exact nomatch group

end

/-! ### The requests on claims (R23 to R32, R61)

Each goes through the checks of its request: a refusal makes no move. -/

section
variable {s : State} {g : Hand} {h : HostId} {p : List Byte}

theorem State.moves_refused (st : Status) : State.Moves (s, g) ((refused s st).1, g) := .refl

theorem State.moves_stageRequest (there : s.attached h = true) : State.Moves (s, g) ((stageRequest h p s).1, g) := by
  simp only [stageRequest]
  repeat' split
  any_goals exact .refl
  next addresses _ action m reload settings _ none _ _ i free =>
  simp only [Bool.or_eq_true, beq_iff_eq, not_or, Bool.not_eq_true] at addresses
  obtain ⟨unicast, nonzero⟩ := addresses
  refine (State.Move.entry (s := s) (e := ⟨_, .unicast (stagedClaim s.accord.config h _ action m reload)⟩)
    (fun accord _ => lawful_stagedClaim accord.active unicast nonzero settings h) (fun table a ha j hj => ?_)
        (fun k hk => .inr ?_)).run
  · obtain rfl : addressAt p 0 = a := Option.some.inj ha
    exact absurd hj (State.unheld_of_claimAt_none table unicast none j)
  · obtain rfl : h = k := Or.resolve_right hk (by simp [stagedClaim])
    exact there

theorem State.moves_bindRequest : State.Moves (s, g) ((bindRequest h p s).1, g) := by
  simp only [bindRequest]
  repeat' split
  any_goals exact .refl
  next own _ _ =>
  exact State.moves_setClaim_same (State.use_of_ownClaim own) rfl rfl rfl fun _ law => law.startLease (Nat.zero_le _)

theorem State.moves_yieldRequest : State.Moves (s, g) ((yieldRequest h p s).1, g) := by
  simp only [yieldRequest]
  repeat' split
  any_goals exact .refl
  exact State.moves_endClaim _

theorem State.moves_setActionRequest : State.Moves (s, g) ((setActionRequest h p s).1, g) := by
  simp only [setActionRequest]
  repeat' split
  any_goals exact .refl
  next own _ =>
  exact State.moves_setClaim_same (State.use_of_ownClaim own) rfl rfl rfl fun _ law => law.withAction _

theorem State.moves_renewRequest : State.Moves (s, g) ((renewRequest h p s).1, g) := by
  simp only [renewRequest]
  repeat' split
  any_goals exact .refl
  next own leased =>
  simp only [Bool.or_eq_true, Bool.not_eq_true', not_or, Bool.not_eq_false] at leased
  exact State.moves_setClaim_same (State.use_of_ownClaim own) rfl rfl rfl fun _ law => law.renew leased.1

/-! ### The requests on groups (R33, R34) -/

theorem State.moves_joinRequest (there : s.attached h = true) : State.Moves (s, g) ((joinRequest h p s).1, g) := by
  simp only [joinRequest]
  split
  · exact .refl
  split
  · exact .refl
  next addresses =>
  simp only [Bool.or_eq_true, Bool.not_eq_true', beq_iff_eq, not_or, Bool.not_eq_false] at addresses
  obtain ⟨group, notBroadcast⟩ := addresses
  split
  · next x found =>
    split
    · exact .refl
    refine State.moves_setGroup (State.use_of_groupAt found) rfl
      (fun law => { law with member := List.ne_nil_of_mem (PerHost.mem_members.2 (PerHost.get_set_self _ h true)) })
      fun k hk => ?_
    by_cases e : k = h
    · exact .inr (e ▸ there)
    · exact .inl (by rwa [PerHost.get_set_ne _ _ e] at hk)
  · next none =>
    split
    · exact .refl
    next i free =>
    refine (State.Move.entry (fun _ _ => ?_) (fun table a ha j hj => ?_) (fun k hk => .inr ?_)).run
    · exact ⟨group, notBroadcast, List.ne_nil_of_mem (PerHost.mem_members.2 (PerHost.get_set_self _ h true)),
          Nat.zero_le _⟩
    · obtain rfl : addressAt p 0 = a := Option.some.inj ha
      exact absurd hj (State.unheld_of_groupAt_none table group none j)
    · by_cases e : k = h
      · exact e ▸ there
      · rw [Entry.names_of_group rfl, PerHost.get_set_ne _ _ e] at hk
        exact nomatch hk.symm.trans (PerHost.get_same false k)

theorem State.moves_leaveRequest : State.Moves (s, g) ((leaveRequest h p s).1, g) := by
  simp only [leaveRequest]
  repeat' split
  any_goals exact .refl
  next found _ => exact State.moves_removeMember (State.use_of_groupAt found) h

/-! ### The requests on offers (R36 to R41) -/

theorem State.moves_offerRequest : State.Moves (s, g) ((offerRequest h p s).1, g) := by
  simp only [offerRequest]
  repeat' split
  any_goals exact .refl
  next i t _ target _ c own live none =>
  obtain ⟨-, target⟩ := Option.filter_eq_some_iff.1 target
  obtain ⟨other, attached⟩ : t ≠ h ∧ s.attached t = true := by simpa using target
  have owner : c.owner = h := (State.ownClaim_some.1 own).owner
  refine (State.moves_setClaim (d := { c with offer := some ⟨t, s.accord.config.stageHold⟩ })
      (State.use_of_ownClaim own)
    rfl (fun accord law => law.withOffer ?_ (owner.symm ▸ other) accord.active.stageHold.2) fun k hk => ?_).then
    (State.moves_notify ..)
  · simpa [Claim.bound] using .inl (not_not.1 live)
  · obtain own | ⟨o, ⟨⟩, rfl⟩ := hk
    · exact .inl (.inl own)
    · exact .inr attached

theorem State.use_of_offeredClaim {i : Index} {c : Claim} {o : Offer} (hc : s.offeredClaim h i = some (c, o)) :
    (s.entry i).use = .unicast c ∧ c.offer = some o ∧ o.target = h := State.offeredClaim_some.1 hc

theorem State.moves_acceptRequest (there : s.attached h = true) : State.Moves (s, g) ((acceptRequest h p s).1, g) := by
  simp only [acceptRequest]
  repeat' split
  any_goals exact .refl
  next c o offered _ =>
  obtain ⟨hu, ho, -⟩ := State.use_of_offeredClaim offered
  have handed : (c.handOver h).address = c.address ∧ (c.handOver h).owner = h ∧ (c.handOver h).offer = none := by
    unfold Claim.handOver
    split <;> exact ⟨rfl, rfl, rfl⟩
  obtain ⟨address, owner, offer⟩ := handed
  refine (State.moves_setUnicast hu address (fun _ law => law.takenOver (law.offer_bound (by simp [ho])) h) fun k hk =>
    .inr ?_).then (State.moves_notify ..)
  rw [Claim.names, owner, offer] at hk
  exact Or.resolve_right hk (by simp) ▸ there

theorem State.moves_refuseRequest : State.Moves (s, g) ((refuseRequest h p s).1, g) := by
  simp only [refuseRequest]
  repeat' split
  any_goals exact .refl
  next offered =>
  exact (State.moves_clearOffer (State.use_of_offeredClaim offered).1).then (State.moves_notifyOffer ..)

theorem State.moves_retractRequest : State.Moves (s, g) ((retractRequest h p s).1, g) := by
  simp only [retractRequest]
  repeat' split
  any_goals exact .refl
  next own _ _ _ =>
  exact (State.moves_clearOffer (State.use_of_ownClaim own)).then (State.moves_notifyOffer ..)

theorem State.moves_lookupRequest : State.Moves (s, g) ((lookupRequest h p s).1, g) := by
  simp only [lookupRequest]
  repeat' split
  all_goals exact .refl

theorem State.moves_listHeldRequest : State.Moves (s, g) ((listHeldRequest h p s).1, g) := by
  simp only [listHeldRequest]
  split <;> exact .refl

end

/-! ### The expiries (R25, R27, R42, R56, R60) -/

section
variable {s : State} {g : Hand} {i : Index}

theorem State.stageExpired_some {sts : List ClaimState} {c : Claim} (hc : s.stageExpired i sts = some c) :
    (s.entry i).use = .unicast c ∧ c.state ∈ sts := by
  obtain ⟨claim, expired⟩ := Option.filter_eq_some_iff.1 hc
  simp only [Bool.and_eq_true, List.contains_iff_mem] at expired
  exact ⟨State.use_of_claim? claim, expired.1⟩

theorem State.moves_probeWindowExpired : State.Moves (s, g) (probeWindowExpired i s, g) := by
  unfold probeWindowExpired
  split
  · next c expired =>
    obtain ⟨hu, probing⟩ := State.stageExpired_some expired
    have staged : c.state.staged = true := by rw [List.mem_singleton.1 probing]; rfl
    exact (State.moves_setClaim_same
        (d := c.startHold .probed s.accord.config.stageHold) hu rfl rfl rfl fun accord law =>
      law.startHold staged rfl accord.active.stageHold.2).then (State.moves_notify ..)
  · exact .refl

theorem State.moves_stageHoldExpired : State.Moves (s, g) (stageHoldExpired i s, g) := by
  unfold stageHoldExpired
  split
  · exact (State.moves_notify ..).then State.moves_freeEntry
  · exact .refl

theorem State.moves_offerExpired : State.Moves (s, g) (offerExpired i s, g) := by
  unfold offerExpired
  repeat' split
  any_goals exact .refl
  next claim _ _ _ _ =>
  exact ((State.moves_clearOffer (State.use_of_claim? claim)).then (State.moves_notifyOffer ..)).then
    (State.moves_notifyOffer ..)

theorem State.moves_leaseRanOut : State.Moves (s, g) (leaseRanOut i s, g) := by
  simp only [leaseRanOut]
  repeat' split
  any_goals exact .refl
  · next c claim ran _ =>
    refine State.moves_setClaim_same (State.use_of_claim? claim) rfl rfl rfl fun _ law => law.renew ?_
    simp [Claim.bound, ran.1]
  · exact (State.moves_notify ..).then (State.moves_endClaim _)
  · next c claim ran _ _ =>
    refine .trans (State.moves_setClaim_same (State.use_of_claim? claim) ?_ ?_ ?_ fun accord law =>
      law.lapse ran.1 ran.2 accord.active.lapseGrace) (State.moves_notify ..)
    all_goals rfl

theorem State.moves_graceExpired : State.Moves (s, g) (graceExpired i s, g) := by
  simp only [graceExpired]
  repeat' split
  any_goals exact .refl
  exact (State.moves_notify ..).then (State.moves_endClaim _)

/-! ### The observation of a source, hits and activity (R13, R15, R55) -/

theorem bumpSmall_le {n : Nat} (small : n ≤ Config.smallCountMax) : bumpSmall n ≤ Config.smallCountMax := by
  unfold bumpSmall
  split <;> omega

theorem Claim.Lawful.collisions_small {c : Claim} (law : c.Lawful) : c.collisions.getD 0 ≤ Config.smallCountMax := by
  cases hn : c.collisions with
  | none => exact Nat.zero_le _
  | some n => exact law.collisions_range n hn

theorem State.moves_observeSource (a : Address) : State.Moves (s, g) (s.observeSource a, g) := by
  unfold State.observeSource
  split
  · exact .refl
  next i c found =>
  have hu := State.use_of_claimAt found
  have hold (staged : c.state.staged = true) (r : Report) :
      State.Moves (s, g) ((s.setClaim i (c.startHold .conflicted s.accord.config.stageHold)).notify c.owner r, g) :=
    (State.moves_setClaim_same (d := c.startHold .conflicted s.accord.config.stageHold) hu rfl rfl rfl fun accord law =>
      law.startHold staged rfl accord.active.stageHold.2).then (State.moves_notify ..)
  have count (bound : c.bound = true) (r : Report) :
      State.Moves (s, g)
        ((s.setClaim i { c with collisions := some (bumpSmall (c.collisions.getD 0)) }).notify c.owner r, g) :=
    (State.moves_setClaim_same (d := { c with collisions := some (bumpSmall (c.collisions.getD 0)) }) hu rfl rfl rfl
      fun _ law => law.withCollisions bound (bumpSmall_le law.collisions_small)).then (State.moves_notify ..)
  split
  · next e => exact hold (by rw [e]; rfl) _
  · next e => exact hold (by rw [e]; rfl) _
  · exact .refl
  · next e => exact count (by simp [Claim.bound, e]) _
  · next e => exact count (by simp [Claim.bound, e]) _

theorem State.moves_raiseHits : State.Moves (s, g) (s.raiseHits i, g) := by
  unfold State.raiseHits
  split
  · exact .refl
  · next hu => exact State.moves_setClaim_same hu rfl rfl rfl fun _ law => law.withHits
  · next x hu =>
    refine State.moves_setGroup hu rfl (fun law => { law with hits_range := ?_ }) fun k hk => .inl hk
    have range := law.hits_range
    simp only [bump]
    split <;> omega

theorem State.moves_markActivity : State.Moves (s, g) (s.markActivity i, g) := by
  unfold State.markActivity
  repeat' split
  any_goals exact .refl
  next claim active =>
  exact State.moves_setClaim_same
      (State.use_of_claim? claim) rfl rfl rfl fun _ law => law.withActivity active.1 active.2

/-! ### The passes of a detach (R46, R47) -/

theorem State.moves_detachOwned (h : HostId) : State.Moves (s, g) (s.detachOwned h i, g) := by
  unfold State.detachOwned
  repeat' split
  any_goals exact .refl
  exact State.moves_endClaim _

theorem State.moves_detachOther (h : HostId) : State.Moves (s, g) (s.detachOther h i, g) := by
  unfold State.detachOther
  split
  · exact .refl
  · next hu =>
    split
    · exact State.moves_removeMember hu h
    · exact .refl
  · next hu =>
    split
    · exact (State.moves_clearOffer hu).then (State.moves_notifyOffer ..)
    · exact .refl

end

theorem State.moves_detachTable (s : State) (g : Hand) (h : HostId) : State.Moves (s, g) (s.detachTable h, g) :=
  (State.moves_foldl (fun _ _ => State.moves_detachOwned h) Index.all s).then
    (State.moves_foldl (fun _ _ => State.moves_detachOther h) Index.all _)

/-- No entry names a host once the table's part of its detach is done. -/
theorem State.not_names_detachTable (s : State) (h : HostId) (i : Index) : ¬ ((s.detachTable h).entry i).names h := by
  rw [State.entry_detachTable, Entry.afterDetach]
  split
  · next hu => simp [Entry.names, hu]
  · next c hu =>
    by_cases own : c.owner = h
    · simp [own, Entry.names]
    · by_cases offered : c.offer.any (fun o => o.target = h) = true
      · simp [own, offered, Entry.names, Claim.names]
      · rw [if_neg own, if_neg offered, Entry.names_of_unicast hu, Claim.names]
        exact not_or.2 ⟨own, fun ⟨o, ho, target⟩ => offered (by simp [Option.mem_def.1 ho, target])⟩
  · next x hu =>
    by_cases member : x.members.get h = true
    · rw [if_pos member]
      split <;> simp [Entry.names]
    · rw [if_neg member, Entry.names_of_group hu]
      exact member

end Sys2Proof.Machine
end

section
/-! The moves of the Host Contexts: reachability and wakes, the delivery procedure, the acknowledgement and the
stranding. -/

namespace Sys2Proof.Machine

/-! ### The lists of frames -/

/-- How often record `r` stands among some handles is how many positions name it. -/
theorem count_map_handle {α : Type} (f : α → Handle) (l : List α) (r : Handle) :
    (l.map f).count r = l.countP (fun p => f p = r) := by
  rw [List.count, List.countP_map]
  exact congrArg (List.countP · l) (funext fun p => beq_eq_decide ..)

section
variable (c : HostCtx) (n : Nat)

theorem HostCtx.rxQueue_drain : (c.drain n).rxQueue = c.rxQueue ++ (c.holdList.take n).map HoldPosition.drained := rfl

theorem HostCtx.holdList_drain : (c.drain n).holdList = c.holdList.drop n := rfl

/-- A drain moves positions and loses none. -/
theorem HostCtx.positions_drain (x : TxHost) (r : Handle) :
    Site.positions ⟨c.drain n, x⟩ r = Site.positions ⟨c, x⟩ r := by
  have moved : ((c.holdList.take n).map HoldPosition.drained).countP (fun p => p.handle = r) =
      (c.holdList.take n).countP (fun p => p.handle = r) := List.countP_map
  have split := congrArg (List.countP (fun p => decide (p.handle = r))) (List.take_append_drop n c.holdList)
  rw [List.countP_append] at split
  simp only [Site.positions, c.rxQueue_drain, c.holdList_drain, List.countP_append, moved]
  omega

/-- A drain changes no frame's cells. -/
theorem HostCtx.waiting_drain (x : TxHost) (cells : Handle → Nat) :
    Site.waiting cells ⟨c.drain n, x⟩ = Site.waiting cells ⟨c, x⟩ := by
  have moved : ((c.holdList.take n).map HoldPosition.drained).map (fun p => cells p.handle) =
      (c.holdList.take n).map (fun p => cells p.handle) := List.map_map
  have split := congrArg (fun l : List HoldPosition => (l.map (fun p => cells p.handle)).sum)
    (List.take_append_drop n c.holdList)
  simp only [List.map_append, List.sum_append] at split
  simp only [Site.waiting, c.rxQueue_drain, c.holdList_drain, List.map_append, List.sum_append, moved]
  omega

end

/-! ### Changes that keep the lists of frames -/

section
variable {c : HostCtx}

/-- A change of the reachability state of an attached host, with the fields that go with it. -/
theorem HostCtx.quiet_of_lists {d : HostCtx} (there : c.attached = true) (stays : d.attached = true)
    (rx : d.rxQueue = c.rxQueue) (hold : d.holdList = c.holdList) (charge : d.charge = c.charge)
    (notices : d.notices = c.notices) (lost : d.lost = c.lost)
    (awake : d.reach = .awake ∨ d.reach = .dozing → c.reach = .awake ∨ c.reach = .dozing)
    (inReach : ∀ x : TxHost, Site.InReach ⟨c, x⟩ → Site.InReach ⟨d, x⟩) : c.Quiet d :=
  ⟨⟨rx, hold, charge, stays.trans there.symm, fun n => notices ▸ n, fun n => lost ▸ n, fun _ n => notices ▸ n,
    inReach⟩, awake⟩

/-- The reachability states of an attached host that is not asleep. -/
theorem HostCtx.awake_of_attached (there : c.attached = true) (wakeful : c.reach.isAsleep = false) :
    c.reach = .awake ∨ c.reach = .dozing :=
  ((Reach.not_asleep_iff _).1 wakeful).resolve_left ((HostCtx.attached_iff c).1 there)

theorem HostCtx.attached_of_reach {r : Reach} (e : c.reach = r) (hr : r ≠ .detached) : c.attached = true :=
  (HostCtx.attached_iff c).2 (e ▸ hr)

theorem HostCtx.quiet_doze (awake : c.reach = .awake ∨ c.reach = .dozing) : c.Quiet { c with reach := .dozing } := by
  refine HostCtx.quiet_of_lists ((HostCtx.attached_iff c).2
      (by rcases awake with e | e <;> rw [e] <;> nofun)) rfl rfl rfl
    rfl rfl rfl (fun _ => awake) ?_
  rintro x ⟨⟩
  rcases awake with e | e <;> constructor <;> simp_all [HostCtx.attached, Reach.isAsleep, beq_eq_decide]

theorem HostCtx.quiet_wake_of_dozing (dozing : c.reach = .dozing) : c.Quiet { c with reach := .awake } := by
  refine HostCtx.quiet_of_lists (HostCtx.attached_of_reach dozing nofun) rfl rfl rfl rfl rfl rfl
      (fun _ => .inr dozing) ?_
  rintro x ⟨⟩
  constructor <;> simp_all [HostCtx.attached, Reach.isAsleep, beq_eq_decide]

theorem HostCtx.quiet_goToSleep (awake : c.reach = .awake ∨ c.reach = .dozing) (d : SleepDepth) (after : Nat) :
    c.Quiet (c.goToSleep d after) := by
  refine HostCtx.quiet_of_lists ((HostCtx.attached_iff c).2
      (by rcases awake with e | e <;> rw [e] <;> nofun)) rfl rfl rfl
    rfl rfl rfl nofun ?_
  rintro x ⟨⟩
  rcases awake with e | e <;> constructor <;> simp_all [HostCtx.attached, Reach.isAsleep, beq_eq_decide,
      HostCtx.goToSleep]

theorem HostCtx.quiet_beginWake (asleep : c.reach = .asleep) (cause : WakeCause) (entry : Option EntryRef)
    (stamp : Word16) : c.Quiet (c.beginWake cause entry stamp) := by
  refine HostCtx.quiet_of_lists (HostCtx.attached_of_reach asleep nofun) rfl rfl rfl rfl rfl rfl nofun ?_
  rintro x ⟨⟩
  constructor <;> simp_all [HostCtx.attached, Reach.isAsleep, beq_eq_decide, HostCtx.beginWake, HostCtx.attemptWindow]

/-- An attempt ends and the rest begins (R129). -/
theorem HostCtx.quiet_rest (waking : c.reach = .waking) (n : Nat) :
    c.Quiet { c with reach := .wakeRest, attemptTimer := none, restTimer := some n } := by
  refine HostCtx.quiet_of_lists (HostCtx.attached_of_reach waking nofun) rfl rfl rfl rfl rfl rfl nofun ?_
  rintro x ⟨⟩
  constructor <;> simp_all [HostCtx.attached, Reach.isAsleep, beq_eq_decide]

/-- The rest ends and the next attempt begins (R130). -/
theorem HostCtx.quiet_retry (resting : c.reach = .wakeRest) (n : Nat) (f : WakeRecord → WakeRecord) :
    c.Quiet
      ({ c with
          reach := .waking, restTimer := none, attempt := some n, attemptTimer := c.attemptWindow }.updateWake f) := by
  refine HostCtx.quiet_of_lists (HostCtx.attached_of_reach resting nofun) rfl rfl rfl rfl rfl rfl nofun ?_
  rintro x ⟨⟩
  constructor <;> simp_all [HostCtx.attached, Reach.isAsleep, beq_eq_decide, HostCtx.updateWake, HostCtx.attemptWindow]

theorem HostCtx.quiet_setMask (there : c.attached = true) (m : Word16) : c.Quiet { c with mask := some m } := by
  refine HostCtx.quiet_of_lists there there rfl rfl rfl rfl rfl id ?_
  intro x law
  exact { law with mask := there.symm }

theorem HostCtx.quiet_readNotices : c.Quiet { c with notices := [], lost := 0 } :=
  ⟨⟨rfl, rfl, rfl, rfl, fun _ => Nat.zero_le _, fun _ => Nat.zero_le _, fun _ _ => rfl, fun _ law => { law with }⟩, id⟩

end

/-! ### Drains (R112, R134) -/

section
variable {c : HostCtx} {x : TxHost} {cells : Handle → Nat} {l : List Handle}

/-- A drain that finds room in the receive queue. -/
theorem HostCtx.moved_drain {n : Nat} (there : c.attached = true)
    (room : c.rxQueue.length ≤ Config.receiveQueueSize →
      c.rxQueue.length + min n c.holdList.length ≤ Config.receiveQueueSize) :
    Site.Moved cells ⟨c, x⟩ l ⟨c.drain n, x⟩ l where
  attached := id
  refs r := by rw [c.positions_drain]
  charge paid := by rw [c.waiting_drain]; exact paid
  ring := le_rfl
  bounded fits :=
    { fits with
      rxQueue := by simpa [c.rxQueue_drain] using room fits.rxQueue
      holdList := by
        have le := fits.holdList
        simp only [c.holdList_drain, List.length_drop] at le ⊢
        omega }
  inReach law := { law with }
  bare _ := by constructor <;> exact fun gone => nomatch there.symm.trans gone

/-- After a drain that fills the receive queue or empties the hold list, held frames stand behind a full queue. -/
theorem HostCtx.held_drain {n : Nat} (fills : n < c.holdList.length → c.rxQueue.length + n = Config.receiveQueueSize) :
    Site.Held ⟨c.drain n, x⟩ := by
  intro _ frames
  have more : n < c.holdList.length := by simpa [c.holdList_drain, List.drop_eq_nil_iff] using frames
  have full := fills more
  simpa only [c.rxQueue_drain, List.length_append, List.length_map, List.length_take,
      Nat.min_eq_left more.le] using full

theorem HostCtx.quiet_startDoze (c : HostCtx) : c.Quiet c.startDoze :=
  HostCtx.quiet_of_same rfl rfl rfl rfl rfl rfl rfl rfl rfl rfl rfl rfl rfl

theorem HostCtx.quiet_stopDoze (c : HostCtx) : c.Quiet c.stopDoze :=
  HostCtx.quiet_of_same rfl rfl rfl rfl rfl rfl rfl rfl rfl rfl rfl rfl rfl

/-- The context of a host that its RESUME wakes, before the drain (R133). -/
def HostCtx.awakened (c : HostCtx) (stamp : Word16) : HostCtx :=
  { c with
    reach := .awake
    depth := none
    alarm := none
    attempt := none
    attemptTimer := none
    restTimer := none
    wake := c.wake.map (fun w => w.complete c.reach stamp c.holdList.length) }

theorem HostCtx.calm_awakened (there : c.attached = true) (stamp : Word16) : c.Calm (c.awakened stamp) := by
  refine ⟨rfl, rfl, rfl, there.symm, id, id, fun _ => id, fun y law => ?_⟩
  have wake := law.wake
  have mask := law.mask
  have next := law.nextSequence
  constructor <;> simp_all [HostCtx.awakened, HostCtx.attached, Reach.isAsleep, beq_eq_decide]

theorem HostCtx.next_wakeUp (there : c.attached = true) (stamp : Word16) :
    Site.Next cells ⟨c, x⟩ l ⟨c.wakeUp stamp, x⟩ l := by
  let d := c.awakened stamp
  let n := min d.holdList.length (Config.receiveQueueSize - d.rxQueue.length)
  have ends : c.wakeUp stamp = if d.rxQueue.isEmpty ∧ 0 < n then (d.drain n).startDoze else d.drain n := rfl
  have settles : (d.drain n).Quiet (c.wakeUp stamp) := by
    rw [ends]
    split
    · exact HostCtx.quiet_startDoze _
    · exact HostCtx.quiet_of_same rfl rfl rfl rfl rfl rfl rfl rfl rfl rfl rfl rfl rfl
  have drains : Site.Moved cells ⟨c, x⟩ l ⟨d.drain n, x⟩ l :=
    ((HostCtx.calm_awakened there stamp).moved cells x l).trans
      (HostCtx.moved_drain (c := d) rfl fun fits => by simp only [n]; omega)
  refine ⟨drains.trans (settles.moved cells x l), fun fits bare _ =>
    (settles.next cells x l).held (drains.bounded fits) (drains.bare bare) (HostCtx.held_drain fun more => ?_)⟩
  have full : d.rxQueue.length ≤ Config.receiveQueueSize := fits.rxQueue
  simp only [n] at more ⊢
  omega

theorem HostCtx.next_resume (there : c.attached = true) (stamp : Word16) :
    Site.Next cells ⟨c, x⟩ l ⟨c.resume stamp, x⟩ l := by
  have same : Site.Next cells ⟨c, x⟩ l ⟨c, x⟩ l :=
    (HostCtx.quiet_of_same rfl rfl rfl rfl rfl rfl rfl rfl rfl rfl rfl rfl rfl).next cells x l
  unfold HostCtx.resume
  split
  · next dozing => exact (HostCtx.quiet_wake_of_dozing dozing).next cells x l
  · exact HostCtx.next_wakeUp there stamp
  · exact HostCtx.next_wakeUp there stamp
  · exact HostCtx.next_wakeUp there stamp
  · exact HostCtx.next_wakeUp there stamp
  · exact same
  · exact same

/-! ### The acknowledgement of the head (R112) -/

/-- The head of an awake host's receive queue goes into the hand, and the oldest held frame takes a place. -/
theorem HostCtx.next_acknowledge {q : RxPosition} {rest : List RxPosition} (head : c.rxQueue = q :: rest)
    (awake : c.reach = .awake ∨ c.reach = .dozing) :
    Site.Next cells ⟨c, x⟩ l ⟨c.acknowledge (cells q.handle), x⟩ (q.handle :: l) := by
  have there : c.attached = true := (HostCtx.attached_iff c).2 (by rcases awake with e | e <;> rw [e] <;> nofun)
  let d : HostCtx := { c with rxQueue := rest, charge := c.charge - cells q.handle }
  have ends : c.acknowledge (cells q.handle) = if (d.drain 1).rxQueue.isEmpty then (d.drain 1).stopDoze
      else (d.drain 1).startDoze := by
    simp only [HostCtx.acknowledge, head]
    rfl
  have settles : (d.drain 1).Quiet (c.acknowledge (cells q.handle)) := by
    rw [ends]
    split
    · exact HostCtx.quiet_stopDoze _
    · exact HostCtx.quiet_startDoze _
  have drains : Site.Moved cells ⟨c, x⟩ l ⟨d.drain 1, x⟩ (q.handle :: l) :=
    { attached := id
      refs := fun r => by
        rw [d.positions_drain]
        simp only [Site.positions, head, d, List.countP_cons, List.count_cons, beq_eq_decide]
        omega
      charge := fun paid => by
        rw [d.waiting_drain]
        simp only [Site.waiting, head, List.map_cons, List.sum_cons] at paid
        show c.charge - cells q.handle =
          (rest.map (fun p => cells p.handle)).sum + (c.holdList.map (fun p => cells p.handle)).sum
        omega
      ring := le_rfl
      bounded := fun fits =>
        { fits with
          rxQueue := by
            have le := fits.rxQueue
            simp only [head, d.rxQueue_drain, d, List.length_cons, List.length_append, List.length_map,
              List.length_take] at le ⊢
            omega
          holdList := by
            have le := fits.holdList
            simp only [d.holdList_drain, d, List.length_drop] at le ⊢
            omega }
      inReach := fun law => { law with }
      bare := fun _ => by constructor <;> exact fun gone => nomatch there.symm.trans gone }
  refine ⟨drains.trans (settles.moved cells x _), fun fits bare full =>
    (settles.next cells x l).held (drains.bounded fits) (drains.bare bare) (HostCtx.held_drain fun more => ?_)⟩
  have frames : c.holdList ≠ [] := List.ne_nil_of_length_pos (Nat.zero_lt_of_lt more)
  have before : c.rxQueue.length = Config.receiveQueueSize := full awake frames
  rw [head] at before
  exact before

/-! ### Stranding (R131) -/

/-- The held frames of a host that is stranded go into the hand. -/
theorem HostCtx.next_strand (waking : c.reach = .waking) :
    Site.Next cells ⟨c, x⟩ l
      ⟨c.strand ((c.holdList.map (·.handle)).map cells).sum, x⟩ (c.holdList.map (·.handle) ++ l) where
  attached := fun _ => rfl
  refs r := by
    simp only [Site.positions, HostCtx.strand, List.countP_nil, List.count_append, count_map_handle]
    omega
  charge paid := by
    simp only [Site.waiting, HostCtx.strand, List.map_map, Function.comp_def, List.map_nil, List.sum_nil] at paid ⊢
    omega
  ring := le_rfl
  bounded fits := { fits with holdList := Nat.zero_le _ }
  inReach law := by
    rcases law
    constructor <;> simp_all [HostCtx.attached, Reach.isAsleep, HostCtx.strand, beq_eq_decide]
  bare _ := by constructor <;> nofun
  held _ _ _ := nofun

/-! ### The delivery procedure (R105 to R109) -/

theorem HostCtx.holdPath_cases (quota n : Nat) :
    (c.holdPath quota n).placed = false ∨
      (c.holdPath quota n = .held ∧ c.holdList.length < Config.holdListSize) := by
  unfold HostCtx.holdPath
  split
  · exact .inl rfl
  · split
    · exact .inl rfl
    · exact .inr ⟨rfl, by omega⟩

/-- The two ways in which a call places a frame: with nothing held and room in the receive queue, and by the hold path,
which an awake host takes only behind held frames (R106, R107). -/
theorem HostCtx.deliveryResult_cases (quota n : Nat) (gov : SleepAction) :
    (c.deliveryResult quota n gov).placed = false ∨
      (c.deliveryResult quota n gov = .delivered ∧ c.holdList = [] ∧ c.rxQueue.length < Config.receiveQueueSize) ∨
      (c.deliveryResult quota n gov = .held ∧ c.holdList.length < Config.holdListSize ∧
        (c.reach = .awake ∨ c.reach = .dozing → c.holdList ≠ [])) := by
  have holds (path : c.deliveryResult quota n gov = c.holdPath quota n)
      (behind : c.reach = .awake ∨ c.reach = .dozing → c.holdList ≠ []) :
      (c.deliveryResult quota n gov).placed = false ∨
        (c.deliveryResult quota n gov = .delivered ∧ c.holdList = [] ∧ c.rxQueue.length < Config.receiveQueueSize) ∨
        (c.deliveryResult quota n gov = .held ∧ c.holdList.length < Config.holdListSize ∧
          (c.reach = .awake ∨ c.reach = .dozing → c.holdList ≠ [])) := by
    rw [path]
    exact (c.holdPath_cases quota n).imp_right fun ⟨e, room⟩ => .inr ⟨e, room, behind⟩
  cases e : c.reach with
  | awake | dozing | detached =>
    cases empty : c.holdList with
    | cons p l =>
      simpa only [e, empty] using holds (by simp [HostCtx.deliveryResult, e, empty]) (fun _ => empty ▸ nofun)
    | nil =>
      by_cases full : Config.receiveQueueSize ≤ c.rxQueue.length
      · exact .inl (by simp [HostCtx.deliveryResult, e, empty, full, DeliveryResult.placed])
      by_cases out : quota < c.charge + n
      · exact .inl (by simp [HostCtx.deliveryResult, e, empty, full, out, DeliveryResult.placed])
      · exact .inr (.inl ⟨by simp [HostCtx.deliveryResult, e, empty, full, out], rfl, Nat.lt_of_not_le full⟩)
  | asleep | waking | wakeRest =>
    by_cases drops : gov = .drop
    · exact .inl (by simp [HostCtx.deliveryResult, e, drops, DeliveryResult.placed])
    · simpa only [e] using holds (by simp [HostCtx.deliveryResult, e, drops]) (fun awake => by simp [e] at awake)
  | stranded => exact .inl (by simp [HostCtx.deliveryResult, e, DeliveryResult.placed])

section
variable {r : Handle} {stamp : Word16}

theorem Site.bare_of_attached {σ : Site} (there : σ.host.attached = true) : σ.Bare := by
  constructor <;> exact fun gone => nomatch there.symm.trans gone

theorem HostCtx.quiet_counted_dropped {result : DeliveryResult} (dropped : result.placed = false) (n : Nat) :
    c.Quiet (c.counted result r stamp n) := by
  rw [HostCtx.counted_dropped dropped]
  refine HostCtx.quiet_of_same rfl rfl rfl rfl rfl rfl rfl rfl rfl rfl rfl ?_ rfl
  show (if c.reach.isAsleep then c.wake.map _ else c.wake).isSome = c.wake.isSome
  split
  · exact Option.isSome_map ..
  · rfl

theorem HostCtx.next_counted_delivered (there : c.attached = true) (empty : c.holdList = [])
    (room : c.rxQueue.length < Config.receiveQueueSize) :
    Site.Next cells ⟨c, x⟩ (r :: l) ⟨c.counted .delivered r stamp (cells r), x⟩ l := by
  rw [HostCtx.counted_delivered]
  exact
    { attached := id
      refs := fun q => by
        simp only [Site.positions, List.countP_append, List.countP_singleton, List.count_cons, beq_eq_decide]
        omega
      charge := fun paid => by
        simp only [Site.waiting, List.map_append, List.sum_append, List.map_cons, List.map_nil,
          List.sum_singleton] at paid ⊢
        omega
      ring := le_rfl
      bounded := fun fits =>
        { fits with
          rxQueue := by
            simp only [List.length_append, List.length_singleton]
            omega }
      inReach := fun law => { law with }
      bare := fun _ => Site.bare_of_attached there
      held := fun _ _ _ _ frames => absurd empty frames }

theorem HostCtx.next_counted_held (there : c.attached = true) (room : c.holdList.length < Config.holdListSize)
    (behind : c.reach = .awake ∨ c.reach = .dozing → c.holdList ≠ []) :
    Site.Next cells ⟨c, x⟩ (r :: l) ⟨c.counted .held r stamp (cells r), x⟩ l where
  attached := id
  refs q := by
    simp only [Site.positions, HostCtx.counted, HostCtx.settle, List.countP_append, List.countP_singleton,
      List.count_cons, beq_eq_decide]
    omega
  charge paid := by
    simp only [Site.waiting, HostCtx.counted, HostCtx.settle, List.map_append, List.sum_append, List.map_cons,
      List.map_nil, List.sum_singleton] at paid ⊢
    omega
  ring := le_rfl
  bounded fits :=
    { fits with
      holdList := by
        simp only [HostCtx.counted, HostCtx.settle, List.length_append, List.length_singleton]
        omega }
  inReach law := { law with }
  bare _ := Site.bare_of_attached there
  held _ _ full awake _ := full awake (behind awake)

/-- A wake begun by a call finds the host ASLEEP (R108). -/
theorem HostCtx.asleep_of_wakeOfCall {gov : SleepAction} {result : DeliveryResult} {matched : Option EntryRef}
    {w : WakeCause × Option EntryRef} (wake : c.wakeOfCall gov result matched = some w) : c.reach = .asleep := by
  by_contra awake
  exact nomatch (HostCtx.wakeOfCall_of_ne awake ..).symm.trans wake

theorem HostCtx.reach_counted (result : DeliveryResult) (n : Nat) : (c.counted result r stamp n).reach = c.reach := by
  cases placed : result.placed
  · rw [HostCtx.counted_dropped placed]
  · cases result
    case delivered => rw [HostCtx.counted_delivered]
    case held => rfl
    all_goals exact nomatch placed

/-- The wake that a call may begin, after its frame is settled and counted. -/
theorem HostCtx.quiet_afterCall (quota n : Nat) (cls : FrameClass) (matched : Option EntryRef) (action : SleepAction) :
    (c.counted (c.deliveryResult quota n (governingAction cls action c.params)) r stamp n).Quiet
      (c.afterCall quota n cls matched action r stamp) := by
  rcases wake : c.wakeOfCall (governingAction cls action c.params) _ matched with _ | ⟨cause, entry⟩
  · rw [HostCtx.afterCall_of_no_wake rfl wake]
    exact HostCtx.quiet_of_same rfl rfl rfl rfl rfl rfl rfl rfl rfl rfl rfl rfl rfl
  · rw [HostCtx.afterCall_of_wake rfl wake]
    exact HostCtx.quiet_beginWake ((HostCtx.reach_counted ..).trans (HostCtx.asleep_of_wakeOfCall wake)) ..

end

end

/-! ### The deliveries of a frame -/

section
variable {s : State} {g : Hand}

theorem State.cellCount_eq (s : State) (r : Handle) : s.cellCount r = (chainOf (s.record r)).length := by
  unfold State.cellCount
  split
  · next e => rw [e]; rfl
  · next e => rw [e]; rfl

/-- A record changed but for its chain. -/
theorem State.chainOf_setRecord {s : State} {r : Handle} {rec rec' : FrameRecord} (hr : s.record r = some rec)
    (chain : rec'.chain = rec.chain) (q : Handle) :
    chainOf ((s.setRecord r (some rec')).record q) = chainOf (s.record q) := by
  rw [State.record_setRecord]
  split
  · next e => rw [e, hr]; exact chain
  · rfl

theorem State.takeRef_cellCount (s : State) (r q : Handle) : (s.takeRef r).cellCount q = s.cellCount q := by
  cases hr : s.record r with
  | none => rw [State.takeRef_of_free hr]
  | some rec =>
    rw [State.takeRef_of_record hr, State.cellCount_eq, State.cellCount_eq,
      State.chainOf_setRecord (rec' := { rec with refs := rec.refs + 1 }) hr rfl]

theorem State.takeRef_setHost (s : State) (h : HostId) (c : HostCtx) (r : Handle) :
    (s.setHost h c).takeRef r = (s.takeRef r).setHost h c := by
  cases hr : s.record r with
  | none => rw [State.takeRef_of_free hr, State.takeRef_of_free (s := s.setHost h c) hr]
  | some rec =>
    rw [State.takeRef_of_record hr, State.takeRef_of_record (s := s.setHost h c) hr]
    rfl

/-- One call of the delivery procedure, a reference to the frame being in hand. -/
theorem State.moves_deliver {d : Delivery} (mem : d.handle ∈ g.refs) (h : HostId) :
    State.Moves (s, g) ((s.deliver h d).1, g) := by
  by_cases there : s.attached h = true
  swap
  · rw [State.deliver, if_neg there]
    exact .refl
  let c := s.host h
  let quota := s.accord.config.cellQuota.get h
  let n := s.cellCount d.handle
  let after := c.afterCall quota n d.cls d.matched d.action d.handle s.stamp
  let result := c.deliveryResult quota n (governingAction d.cls d.action c.params)
  have wakes : (c.counted result d.handle s.stamp n).Quiet after := HostCtx.quiet_afterCall ..
  have calls := State.deliver_of_attached ((HostCtx.attached_iff _).1 there) (d := d) (r := result) rfl
  -- a frame placed takes a reference, which the position then has
  have places (placed : result.placed = true)
      (next : Site.Next s.cellCount ⟨c, s.tx h⟩ (d.handle :: g.refs) ⟨c.counted result d.handle s.stamp n,
          s.tx h⟩ g.refs) :
      State.Moves (s, g) ((s.deliver h d).1, g) := by
    have same : (s.deliver h d).1 = ((s.takeRef d.handle).setHost h (c.counted result d.handle s.stamp n)).setHost h
        after := by
      rw [calls]
      simp only [placed, if_true, State.setHost_setHost, ← State.takeRef_setHost]
      rfl
    rw [same]
    have cells : (s.takeRef d.handle).cellCount = s.cellCount := funext (s.takeRef_cellCount d.handle)
    have host : (s.takeRef d.handle).host h = c := by simp [State.host, c]
    have tx : (s.takeRef d.handle).tx h = s.tx h := by simp [State.tx]
    have taken : State.Moves (s, g) (s.takeRef d.handle, { g with refs := d.handle :: g.refs }) :=
        (State.Move.take mem).run
    refine (taken.then (State.moves_setHost (m := g.refs) ?_)).then (State.moves_setHost_quiet ?_ g)
    · rw [cells, host, tx]
      exact next
    · rw [State.host_setHost_self]
      exact wakes
  rcases c.deliveryResult_cases quota n (governingAction d.cls d.action c.params) with dropped | ⟨e, empty, room⟩ |
      ⟨e, room, behind⟩
  · have same : (s.deliver h d).1 = (s.setHost h (c.counted result d.handle s.stamp n)).setHost h after := by
      rw [calls]
      simp only [show result.placed = false from dropped, Bool.false_eq_true, if_false, State.setHost_setHost]
      rfl
    rw [same]
    refine (State.moves_setHost_quiet (HostCtx.quiet_counted_dropped dropped n) g).then (State.moves_setHost_quiet ?_ g)
    rw [State.host_setHost_self]
    exact wakes
  · refine places (by rw [show result = .delivered from e]; rfl) ?_
    rw [show result = .delivered from e]
    exact HostCtx.next_counted_delivered there empty room
  · refine places (by rw [show result = .held from e]; rfl) ?_
    rw [show result = .held from e]
    exact HostCtx.next_counted_held there room behind

theorem State.moves_deliverAll {d : Delivery} (mem : d.handle ∈ g.refs) (hs : List HostId) :
    State.Moves (s, g) ((s.deliverAll hs d).1, g) := by
  induction hs using List.reverseRecOn with
  | nil => exact .refl
  | append_singleton hs h ih =>
    rw [State.deliverAll_snoc]
    exact ih.then (State.moves_deliver mem h)

end

/-! ### References given up -/

theorem State.moves_dropRef (s : State) (r : Handle) (g : Hand) :
    State.Moves (s, { g with refs := r :: g.refs }) (s.dropRef r, g) := (State.Move.drop (s := s)).run

theorem State.moves_dropRefs (s : State) (rs : List Handle) (g : Hand) :
    State.Moves (s, { g with refs := rs ++ g.refs }) (s.dropRefs rs, g) := by
  induction rs generalizing s with
  | nil => exact .refl
  | cons r rs ih => exact (s.moves_dropRef r { g with refs := rs ++ g.refs }).then (ih (s.dropRef r))

/-! ### The requests of the Host Contexts (R111 to R114, R80, R124 to R139, R183 to R185) -/

section
variable {s : State} {g : Hand} {h : HostId} {p : List Byte}

/-- A host whose command is served is attached, and is awake where the command is refused to one that is asleep. -/
theorem State.awake_of_attached (there : s.attached h = true) (wakeful : ¬ s.asleep h = true) : s.Awake h :=
  HostCtx.awake_of_attached there (Bool.eq_false_iff.2 wakeful)

theorem State.moves_dozeRequest (there : s.attached h = true) : State.Moves (s, g) ((dozeRequest h p s).1, g) := by
  unfold dozeRequest
  split
  · exact .refl
  · next wakeful => exact State.moves_setHost_quiet (HostCtx.quiet_doze (State.awake_of_attached there wakeful)) g

theorem State.moves_sleepRequest (there : s.attached h = true) : State.Moves (s, g) ((sleepRequest h p s).1, g) := by
  unfold sleepRequest
  split
  · exact .refl
  next wakeful =>
  split
  · exact .refl
  · exact State.moves_setHost_quiet (HostCtx.quiet_goToSleep (State.awake_of_attached there wakeful) ..) g

theorem State.moves_resumeRequest (there : s.attached h = true) : State.Moves (s, g) ((resumeRequest h p s).1, g) :=
  State.moves_setHost (m := g.refs) (HostCtx.next_resume there s.stamp)

theorem State.moves_setHostParamsRequest : State.Moves (s, g) ((setHostParamsRequest h p s).1, g) := by
  unfold setHostParamsRequest
  split
  · exact .refl
  split
  · exact .refl
  · next q _ =>
    exact State.moves_setHost_quiet (c := { s.host h with params := q })
      (HostCtx.quiet_of_same rfl rfl rfl rfl rfl rfl rfl rfl rfl rfl rfl rfl rfl) g

theorem State.moves_readNoticesRequest : State.Moves (s, g) ((readNoticesRequest h p s).1, g) :=
  State.moves_setHost_quiet HostCtx.quiet_readNotices g

theorem State.moves_setNoticeMaskRequest (there : s.attached h = true) :
    State.Moves (s, g) ((setNoticeMaskRequest h p s).1, g) := by
  simp only [setNoticeMaskRequest]
  repeat' split
  any_goals exact .refl
  exact State.moves_setHost_quiet (HostCtx.quiet_setMask there _) g

theorem State.moves_clearCountersRequest : State.Moves (s, g) ((clearCountersRequest h p s).1, g) := by
  unfold clearCountersRequest
  split
  · exact .refl
  · exact s.moves_countHost g h (fun _ => .zero)

theorem State.moves_readCountersRequest : State.Moves (s, g) ((readCountersRequest h p s).1, g) := by
  unfold readCountersRequest
  split <;> exact .refl

theorem State.moves_poolStatusRequest : State.Moves (s, g) ((poolStatusRequest h p s).1, g) := by
  unfold poolStatusRequest
  split <;> exact .refl

theorem State.moves_lineStatusRequest : State.Moves (s, g) ((lineStatusRequest h p s).1, g) := by
  unfold lineStatusRequest
  split <;> exact .refl

theorem State.moves_queueStatusRequest : State.Moves (s, g) ((queueStatusRequest h p s).1, g) := by
  unfold queueStatusRequest
  split <;> exact .refl

theorem State.moves_readFrameRequest : State.Moves (s, g) ((readFrameRequest h p s).1, g) := by
  simp only [readFrameRequest]
  repeat' split
  all_goals exact .refl

theorem State.moves_ackFrameRequest (there : s.attached h = true) :
    State.Moves (s, g) ((ackFrameRequest h p s).1, g) := by
  simp only [ackFrameRequest]
  split
  · exact .refl
  next wakeful =>
  repeat' split
  any_goals exact .refl
  next r _ _ q rest head other =>
  obtain rfl : q.handle = r := not_not.1 other
  exact (State.moves_setHost (m := q.handle :: g.refs)
    (HostCtx.next_acknowledge head (State.awake_of_attached there wakeful))).then (State.moves_dropRef ..)

/-! ### The expiries of a host's timers (R115, R126, R129 to R131) -/

theorem State.moves_dozeDelayExpired : State.Moves (s, g) (dozeDelayExpired h s, g) := by
  simp only [dozeDelayExpired]
  split
  · exact State.moves_setHost_quiet (c := { s.host h with dozeTimer := none, delayReached := true })
      (HostCtx.quiet_of_same rfl rfl rfl rfl rfl rfl rfl rfl rfl rfl rfl rfl rfl) g
  · exact .refl

theorem State.moves_alarmExpired : State.Moves (s, g) (alarmExpired h s, g) := by
  simp only [alarmExpired]
  split
  · next due => exact State.moves_setHost_quiet (HostCtx.quiet_beginWake due.1 ..) g
  · exact .refl

theorem State.moves_strand (waking : (s.host h).reach = .waking) : State.Moves (s, g) (s.strand h, g) :=
  (State.moves_setHost (HostCtx.next_strand waking)).then (State.moves_dropRefs _ _ g)

theorem State.moves_attemptExpired : State.Moves (s, g) (attemptExpired h s, g) := by
  simp only [attemptExpired]
  split
  · next due =>
    split
    · exact State.moves_setHost_quiet (HostCtx.quiet_rest due.1 _) g
    · exact State.moves_strand due.1
  · exact .refl

theorem State.moves_restExpired : State.Moves (s, g) (restExpired h s, g) := by
  simp only [restExpired]
  split
  · next due => exact State.moves_setHost_quiet (HostCtx.quiet_retry due.1 _ _) g
  · exact .refl

/-! ### Attachment (R178) -/

/-- The site of a DETACHED host after its ATTACH. -/
theorem HostCtx.next_attach {c : HostCtx} {x : TxHost} {cells : Handle → Nat} {l : List Handle}
    (gone : c.attached = false) :
    Site.Next cells ⟨c, x⟩ l ⟨c.attach, { x with nextSequence := some 0 }⟩ l where
  attached := fun _ => rfl
  refs _ := rfl
  charge paid := paid
  ring := le_rfl
  bounded fits := { fits with notices := Nat.zero_le _, lost := Nat.zero_le _ }
  inReach law := by
    have reach : c.reach = .detached := by simpa [HostCtx.attached] using gone
    rcases law
    constructor <;> simp_all [HostCtx.attached, Reach.isAsleep, HostCtx.attach, beq_eq_decide]
  bare _ := Site.bare_of_attached rfl
  held _ bare _ _ frames := absurd (bare.holdList gone) frames

theorem State.moves_attachRequest (gone : s.attached h = false) :
    State.Moves (s, g) ((attachRequest h p s).1, g) :=
  (State.Move.site (HostCtx.next_attach gone)).run

end

end Sys2Proof.Machine
end

section
/-! The moves of the Line Interface, the Transmit Arbiter and the Accord Unit. -/

namespace Sys2Proof.Machine

section
variable {s : State} {g : Hand}

/-! ### Records -/

theorem State.moves_finishRecord (r : Handle) (n : Nat) : State.Moves (s, g) (s.finishRecord r n, g) := by
  unfold State.finishRecord
  split
  · next rec hr =>
    exact (State.Move.record (rec' := { rec with length := some n, exhausted := none }) hr rfl rfl).run
  · exact .refl

theorem State.moves_setClass (r : Handle) (cls : FrameClass) (m : Option EntryRef) :
    State.Moves (s, g) (s.setClass r cls m, g) := by
  unfold State.setClass
  split
  · next rec hr => exact (State.Move.record (rec' := { rec with cls := some cls, matched := m }) hr rfl rfl).run
  · exact .refl

theorem State.moves_markMatch (r : Handle) (cls : FrameClass) (m : Option Index) (ts : List HostId) :
    State.Moves (s, g) (s.markMatch r cls m ts, g) := by
  have marks : State.Moves (s, g) (if ts.isEmpty then s else s.setClass r cls (m.map s.entryRef), g) := by
    split
    · exact .refl
    · exact State.moves_setClass ..
  simp only [State.markMatch]
  split
  · exact marks.then State.moves_raiseHits
  · exact marks

/-! ### The classification and the end of a reception (R88 to R91) -/

theorem State.moves_classify {r : Handle} (mem : r ∈ g.refs) (source dest : Address) :
    State.Moves (s, g) (s.classify r source dest, g) := by
  have observes : State.Moves (s, g) (s.observeSource source, g) := State.moves_observeSource source
  cases found : (s.observeSource source).classifyLine dest with
  | deliver cls matched action targets =>
    rw [State.classify_of_deliver found]
    have delivers : State.Moves (s, g) (((s.observeSource source).markMatch r cls matched targets).deliverAll targets
        ⟨r, cls, matched.map ((s.observeSource source).markMatch r cls matched targets).entryRef, action⟩ |>.1, g) :=
      (observes.then (State.moves_markMatch ..)).then (State.moves_deliverAll mem targets)
    simp only
    split
    · exact delivers.then (State.moves_countDevice ..)
    · exact delivers
  | groupUnmatched =>
    simp only [State.classify, found]
    exact observes.then (State.moves_countDevice ..)
  | unknownDiscarded =>
    simp only [State.classify, found]
    exact observes.then (State.moves_countDevice ..)

theorem State.moves_settleReception (r : Handle) (n : Nat) (o : RxOutcome) :
    State.Moves (s, { g with refs := r :: g.refs }) (s.settleReception r n o, g) := by
  have counted (f : DeviceCounters → DeviceCounters) :
      State.Moves (s, { g with refs := r :: g.refs }) ((s.countDevice f).dropRef r, g) :=
    (s.moves_countDevice _ f).then (State.moves_dropRef ..)
  simp only [State.settleReception]
  split
  · exact counted _
  cases o with
  | good =>
    exact (((s.moves_countDevice _ _).then (State.moves_finishRecord r (n - 4))).then
      (State.moves_classify (List.mem_cons_self ..) ..)).then (State.moves_dropRef ..)
  | runt | giant | badCheck | lineLost | lineDisabled => exact counted _

theorem State.receivesInto_of_storing {x : Reception} {r : Handle} (hx : s.line.reception = some x)
    (hm : x.mode = .storing r) : s.receivesInto r = true := by
  simp [State.receivesInto, hx, hm]

/-- The receiver turned from one state that stores no frame to another. -/
theorem State.moves_setReception_ignoring {y : Option Reception} (before : ∀ x ∈ s.line.reception, x.mode = .ignoring)
    (after : ∀ x ∈ y, x.mode = .ignoring) : State.Moves (s, g) (s.setReception y, g) := by
  have silent {z : Option Reception} (ignores : ∀ x ∈ z, x.mode = .ignoring) (r : Handle) :
      z.any (fun x => x.mode = .storing r) = false := by
    cases z with
    | none => rfl
    | some x => simp [ignores x rfl]
  exact (State.Move.idle (s := s) (t := s.setReception y)
    ⟨rfl, rfl, rfl, rfl, rfl, rfl, fun r => (silent after r).trans (silent before r).symm⟩).run

theorem State.moves_endReception {x : Reception} (hx : s.line.reception = some x) (o : RxOutcome) :
    State.Moves (s, g) (s.endReception x o, g) := by
  cases hm : x.mode with
  | ignoring =>
    rw [State.endReception_of_ignoring hm]
    exact State.moves_setReception_ignoring (fun z hz => by rw [hx] at hz; cases hz; exact hm) nofun
  | storing r =>
    rw [State.endReception_of_storing hm]
    exact (State.Move.stop (State.receivesInto_of_storing hx hm) (by simp)).run.then (State.moves_settleReception ..)

theorem State.moves_wireFrameEnded : State.Moves (s, g) (wireFrameEnded s, g) := by
  unfold wireFrameEnded
  split
  · exact .refl
  · next hx => exact State.moves_endReception hx _

theorem State.moves_loseReception : State.Moves (s, g) (s.loseReception, g) := by
  unfold State.loseReception
  split
  · next hx => exact State.moves_endReception hx _
  · exact .refl

theorem State.moves_disableReception : State.Moves (s, g) (s.disableReception, g) := by
  simp only [State.disableReception]
  split
  · next x hx =>
    split
    · next r hm =>
      refine (State.Move.stop (y := some { x with mode := .ignoring })
          (State.receivesInto_of_storing hx hm) ?_).run.then
        (State.moves_settleReception ..)
      rintro z ⟨⟩
      rfl
    · exact .refl
  · exact .refl

/-! ### A frame start and the bytes of a reception (R86, R87) -/

theorem State.moves_frameStarted : State.Moves (s, g) (frameStarted s, g) := by
  have ignores (silent : s.line.reception = none) :
      State.Moves (s, g) (s.setReception (some (.begin .ignoring)), g) :=
    State.moves_setReception_ignoring (by simp [silent]) (by rintro z ⟨⟩; rfl)
  unfold frameStarted
  split
  · exact .refl
  next quiet =>
  have silent : s.line.reception = none := by simp_all
  split
  · exact (ignores silent).then (State.moves_countDevice ..)
  split
  · exact (ignores silent).then (State.moves_countDevice ..)
  · next free => exact (State.Move.receive free silent).run

/-- The reception's count, its last bytes and its mark changed, its record as it is. -/
theorem State.moves_setReception_same {x y : Reception} (hx : s.line.reception = some x) (mode : y.mode = x.mode) :
    State.Moves (s, g) (s.setReception (some y), g) :=
  (State.Move.idle (s := s) (t := s.setReception (some y))
    ⟨rfl, rfl, rfl, rfl, rfl, rfl, fun r => by simp [State.receivesInto, State.setReception, hx, mode]⟩).run

theorem State.moves_storeReceived {x : Reception} (hx : s.line.reception = some x) (k : Nat) (b : Byte) :
    State.Moves (s, g) (s.storeReceived x.mode k b, g) := by
  unfold State.storeReceived
  split
  · exact .refl
  next r hm =>
  split
  · exact .refl
  next rec hr =>
  split
  · exact (State.Move.store (State.receivesInto_of_storing hx hm) hr).run
  · exact .refl

theorem Reception.mode_push (x : Reception) (b : Byte) : (x.push b).1.mode = x.mode := by
  simp only [Reception.push]
  split
  · split <;> rfl
  · rfl

theorem State.reception_storeReceived (m : ReceptionMode) (k : Nat) (b : Byte) :
    (s.storeReceived m k b).line = s.line := by
  unfold State.storeReceived
  repeat' split
  all_goals rfl

theorem State.moves_byteReceived (b : Byte) : State.Moves (s, g) (byteReceived b s, g) := by
  unfold byteReceived
  split
  · exact .refl
  next x hx =>
  have mode := x.mode_push b
  split
  · next y e =>
    rw [e] at mode
    exact State.moves_setReception_same hx mode
  · next y _ e =>
    rw [e] at mode
    exact (State.moves_storeReceived hx _ _).then
      (State.moves_setReception_same (by rw [State.reception_storeReceived]; exact hx) mode)

theorem State.moves_cellNeedMet (b : Byte) : State.Moves (s, g) (cellNeedMet b s, g) := by
  unfold cellNeedMet
  split
  · exact State.moves_byteReceived b
  · exact .refl

theorem State.moves_errorMarked : State.Moves (s, g) (errorMarked s, g) := by
  unfold errorMarked
  split
  · exact .refl
  · next x hx => exact State.moves_setReception_same (y := { x with errorSeen := true }) hx rfl

/-! ### The end of a frame's handling (R151) -/

/-- A frame that has not gone to the path ends with its completion. -/
theorem State.moves_endHandling_of_owed {f : OnPath} {rs : List Handle} {l : Option HostId} (plain : f.discard = false)
    (idle : s.arbiter.path = none) (o : TxOutcome) :
    State.Moves (s, ⟨f.handle :: rs, some f.sender, l⟩) (s.endHandling f o, ⟨rs, none, l⟩) := by
  simp only [State.endHandling, State.recordCompletion, plain, Bool.false_eq_true, if_false]
  exact ((State.Move.complete rfl idle).run.then (State.moves_dropRef _ f.handle ⟨rs, none, l⟩)).then
    (State.moves_setPath_same (by rw [State.dropRef_arbiter]; exact idle) _)

/-- The frame on the path ends. -/
theorem State.moves_endHandling_of_busy {f : OnPath} (busy : s.arbiter.path = some f) (owed : g.owed = none)
    (o : TxOutcome) : State.Moves (s, g) (s.endHandling f o, g) := by
  have leaves := (State.Move.unsend (g := g) busy).run
  have same : ({ g with owed := none } : Hand) = g := by rw [← owed]
  cases hd : f.discard with
  | true =>
    rw [hd, if_pos rfl, same] at leaves
    have ends : s.endHandling f o = (s.setPath none).dropRef f.handle := by
      rw [State.endHandling_eq, State.dropRef_eq, hd]
      rfl
    rw [ends]
    exact leaves
  | false =>
    rw [hd] at leaves
    have idle : ((s.setPath none).dropRef f.handle).arbiter.path = none := by simp [State.setPath]
    have completes := leaves.then (State.Move.complete (c := ⟨f.sequence, o, f.delivered⟩) rfl idle).run
    have ends : s.endHandling f o = ((s.setPath none).dropRef f.handle).setTx f.sender
        { s.tx f.sender with ring := (s.tx f.sender).ring ++ [⟨f.sequence, o, f.delivered⟩] } := by
      rw [State.endHandling_eq, State.dropRef_eq, hd]
      rfl
    have tx : ((s.setPath none).dropRef f.handle).tx f.sender = s.tx f.sender := by simp [State.tx, State.setPath]
    rw [tx, ← ends, same] at completes
    exact completes

theorem State.moves_sendCompleted (owed : g.owed = none) : State.Moves (s, g) (sendCompleted s, g) := by
  unfold sendCompleted
  split
  · exact .refl
  · next f busy =>
    exact (State.moves_countDevice ..).then (State.moves_endHandling_of_busy (f := f) (by simpa using busy) owed _)

theorem State.moves_loseTransmission (owed : g.owed = none) : State.Moves (s, g) (s.loseTransmission, g) := by
  unfold State.loseTransmission
  split
  · exact .refl
  · next busy => exact State.moves_endHandling_of_busy busy owed _

/-! ### The grant (R145 to R148) -/

theorem State.moves_switchLocally {r : Handle} (mem : r ∈ g.refs) (x : Route) :
    State.Moves (s, g) ((s.switchLocally r x).1, g) := by
  unfold State.switchLocally
  split
  · exact .refl
  · exact (State.moves_markMatch ..).then (State.moves_deliverAll mem _)

theorem State.moves_giveToLine {f : OnPath} {rs : List Handle} {l : Option HostId} (plain : f.discard = false)
    (idle : s.arbiter.path = none) (part : LinePart) :
    State.Moves (s, ⟨f.handle :: rs, some f.sender, l⟩) (s.giveToLine f part, ⟨rs, none, l⟩) := by
  unfold State.giveToLine
  repeat' split
  any_goals exact State.moves_endHandling_of_owed plain idle _
  exact (State.Move.send idle).run

/-- The head of a host's transmit queue goes into the hand. -/
theorem TxHost.next_pop {c : HostCtx} {x : TxHost} {p : TxPosition} {rest : List TxPosition}
    (head : x.queue = p :: rest)
    (cells : Handle → Nat) (l : List Handle) :
    Site.Next cells ⟨c, x⟩ l ⟨c, { x with queue := rest }⟩ (p.handle :: l) where
  attached := id
  refs r := by
    simp only [Site.positions, head, List.countP_cons, List.count_cons, beq_eq_decide]
    omega
  charge := id
  ring := le_rfl
  bounded fits :=
    { fits with
      queue := by
        have le := fits.queue
        simp only [head, List.length_cons] at le ⊢
        omega }
  inReach law := { law with }
  bare none := { none with queue := fun gone => nomatch head.symm.trans (none.queue gone) }
  held _ _ := id

theorem State.arbiter_switchLocally (r : Handle) (x : Route) : (s.switchLocally r x).1.arbiter = s.arbiter := by
  unfold State.switchLocally
  split
  · rfl
  · rw [State.deliverAll_arbiter, State.markMatch_arbiter]

theorem State.moves_grantTo {h : HostId} {p : TxPosition} {rest : List TxPosition} (head : (s.tx h).queue = p :: rest)
    (place : (s.tx h).ring.length < Config.completionRingSize) (idle : s.arbiter.path = none) (owed : g.owed = none) :
    State.Moves (s, g) (s.grantTo h p rest, g) := by
  let t := s.setTx h { s.tx h with queue := rest }
  let u : State := { t with arbiter := { t.arbiter with lastGranted := h } }
  let x := u.route h (destinationOf (u.frameBytes p.handle))
  have owes : State.Moves (s, g) (s, { g with owed := some h }) :=
    (State.Move.owe place (by rw [head]; nofun)).run
  have pops : State.Moves (s, { g with owed := some h }) (t, ⟨p.handle :: g.refs, some h, g.leaving⟩) :=
    State.moves_setTx (TxHost.next_pop head ..)
  have notes : State.Moves (t, ⟨p.handle :: g.refs, some h, g.leaving⟩) (u, ⟨p.handle :: g.refs, some h, g.leaving⟩) :=
    (State.Move.idle (s := t) (t := u) ⟨rfl, rfl, rfl, rfl, rfl, rfl, fun _ => rfl⟩).run
  have switches := ((owes.then pops).then notes).then (State.moves_switchLocally (List.mem_cons_self ..) x)
  have path : (u.switchLocally p.handle x).1.arbiter.path = none := by
    rw [State.arbiter_switchLocally]
    exact idle
  have gives := State.moves_giveToLine (f := ⟨p.handle, h, p.sequence, (u.switchLocally p.handle x).2, false⟩)
    (rs := g.refs) (l := g.leaving) rfl path x.linePart
  have same : (⟨g.refs, none, g.leaving⟩ : Hand) = g := by rw [← owed]
  exact same ▸ switches.then gives

theorem State.moves_granted (owed : g.owed = none) : State.Moves (s, g) (granted s, g) := by
  unfold granted
  split
  · exact .refl
  next notBusy =>
  split
  · exact .refl
  next h chosen =>
  split
  · exact .refl
  next p rest head =>
  have eligible : (s.tx h).eligible = true :=
    List.find?_some (p := fun k => (s.arbiter.hosts.get k).eligible) chosen
  simp only [TxHost.eligible, Bool.and_eq_true, decide_eq_true_eq] at eligible
  exact State.moves_grantTo head eligible.2 (by simpa using notBusy) owed

/-! ### Line events (R82, R83, R90, R150) -/

theorem State.moves_lineWentUp : State.Moves (s, g) (lineWentUp s, g) := by
  simp only [lineWentUp]
  split
  · exact .refl
  · exact (State.Move.idle (s := s)
      (t := { s with line := { s.line with up := true, link := true, lastChange := some s.stamp } })
      ⟨rfl, rfl, rfl, rfl, rfl, rfl, fun _ => rfl⟩).run.then (State.moves_notifyAll ..)

theorem State.moves_lineWentDown (owed : g.owed = none) : State.Moves (s, g) (lineWentDown s, g) := by
  simp only [lineWentDown]
  split
  · have falls : State.Moves (s, g) (s.lineFalls, g) :=
      (State.Move.idle (s := s) (t := s.lineFalls) ⟨rfl, rfl, rfl, rfl, rfl, rfl, fun _ => rfl⟩).run
    exact ((falls.then State.moves_loseReception).then (State.moves_loseTransmission owed)).then
      (State.moves_notifyAll ..)
  · exact .refl

/-! ### Submission and completions (R143, R144, R153) -/

variable {h : HostId} {p : List Byte}

/-- A frame in hand goes to the tail of an attached host's transmit queue. -/
theorem TxHost.next_push {c : HostCtx} {x : TxHost} {q : TxPosition} (there : c.attached = true)
    (room : x.queue.length < Config.transmitQueueSize) (n : Word16) (cells : Handle → Nat) (l : List Handle) :
    Site.Next cells ⟨c, x⟩ (q.handle :: l) ⟨c, { x with queue := x.queue ++ [q], nextSequence := some n }⟩ l where
  attached := id
  refs r := by
    simp only [Site.positions, List.countP_append, List.countP_singleton, List.count_cons, beq_eq_decide]
    omega
  charge := id
  ring := le_rfl
  bounded fits :=
    { fits with
      queue := by
        simp only [List.length_append, List.length_singleton]
        omega }
  inReach law := { law with nextSequence := there.symm }
  bare _ := Site.bare_of_attached there
  held _ _ := id

theorem State.moves_acceptFrame {i : Index} {r : Handle} {rest : List Handle} {frame : List Byte}
    (there : s.attached h = true) (room : (s.tx h).queue.length < Config.transmitQueueSize)
    (free : s.pool.freeRecords = r :: rest) : State.Moves (s, g) ((s.acceptFrame h i r rest frame).1, g) := by
  have stores : State.Moves (s, g) ((s.storeFrame h r rest frame).markActivity i, { g with refs := r :: g.refs }) :=
    (State.Move.submit free).run.then State.moves_markActivity
  have host : ((s.storeFrame h r rest frame).markActivity i).host h = s.host h := by simp [State.host]
  have tx : ((s.storeFrame h r rest frame).markActivity i).tx h = s.tx h := by simp [State.tx]
  simp only [State.acceptFrame]
  generalize (s.storeFrame h r rest frame).markActivity i = t at stores host tx ⊢
  refine (stores.then (State.moves_setTx (m := g.refs) ?_)).then
    (State.moves_countHost _ g h (fun c => { c with submitted := bump c.submitted }))
  rw [host, tx]
  exact TxHost.next_push (q := ⟨r, (s.tx h).nextSequence.getD 0⟩) there room ..

theorem State.moves_refuseFrame (st : Status) : State.Moves (s, g) ((s.refuseFrame h st).1, g) :=
  s.moves_countHost g h (fun c => { c with txRefused := bump c.txRefused })

theorem State.moves_submitRequest (there : s.attached h = true) : State.Moves (s, g) ((submitRequest h p s).1, g) := by
  unfold submitRequest
  split
  · exact .refl
  split
  · exact State.moves_refuseFrame _
  split
  · exact State.moves_refuseFrame _
  split
  · exact State.moves_refuseFrame _
  split
  · exact State.moves_refuseFrame _
  next room =>
  split
  · exact State.moves_refuseFrame _
  split
  · exact State.moves_refuseFrame _
  next free =>
  split
  · exact State.moves_refuseFrame _
  · exact State.moves_acceptFrame there (Nat.lt_of_not_le room) free

theorem TxHost.next_readRing {c : HostCtx} {x : TxHost} (cells : Handle → Nat) (l : List Handle) :
    Site.Next cells ⟨c, x⟩ l ⟨c, { x with ring := [] }⟩ l where
  attached := id
  refs _ := rfl
  charge := id
  ring := Nat.zero_le _
  bounded fits := { fits with ring := Nat.zero_le _ }
  inReach law := { law with }
  bare none := { none with ring := fun _ => rfl }
  held _ _ := id

theorem State.moves_readCompletionsRequest : State.Moves (s, g) ((readCompletionsRequest h p s).1, g) := by
  simp only [readCompletionsRequest]
  split
  · exact .refl
  · exact State.moves_setTx (m := g.refs) (TxHost.next_readRing ..)

end

end Sys2Proof.Machine
end

section
/-! The moves of the Accord Unit (chapter 9) and of the detach clean-up (R179). -/

namespace Sys2Proof.Machine

section
variable {s : State} {g : Hand} {h : HostId} {p : List Byte}

/-! ### Lawful accords -/

theorem lawful_of_configRecordOf {b : List Byte} {r : ConfigRecord} (read : configRecordOf b = some r) : r.Lawful := by
  obtain ⟨-, probe, hold, lapse, window, -, -, limit, quota⟩ := configRecordOf_some.1 read
  have small (x : Byte) : x.toNat ≤ 255 := Nat.le_of_lt_succ x.isLt
  exact ⟨probe ▸ small _, (rangeOf_some.1 hold).2, lapse ▸ small _, (rangeOf_some.1 window).2,
    fun h => (rangeOf_some.1 (limit h)).2, fun h => (range16Of_some.1 (quota h)).2⟩

/-- An accord with no proposal pending. -/
theorem State.accordLaw_of_idle {a : Accord} (config : a.config.Lawful) (idle : a.proposal = none) :
    (s.setAccord a).AccordLaw := by
  refine ⟨config, ?_, ?_, ?_, ?_, ?_, ?_⟩ <;> exact fun q hq => nomatch idle.symm.trans hq

/-- An accord with a proposal pending. -/
theorem State.accordLaw_of_pending {a : Accord} {q : Proposal} (config : a.config.Lawful) (hq : a.proposal = some q)
    (record : q.record.Lawful) (window : q.window ≤ 255) (serial : q.serial = a.lastSerial)
        (base : q.base = a.generation)
    (proposer : q.votes.get q.proposer = none) (outstanding : ∃ k, q.votes.get k = some .outstanding) :
    (s.setAccord a).AccordLaw := by
  have only {P : Proposal → Prop} (here : P q) : ∀ r ∈ a.proposal, P r := fun r hr =>
    Option.some.inj (hq.symm.trans hr) ▸ here
  exact ⟨config, only record, only window, only serial, only base, only proposer, only outstanding⟩

theorem Proposal.exists_outstanding {q : Proposal} (open' : ¬ q.agreed = true) :
    ∃ k, q.votes.get k = some .outstanding := by
  by_contra none
  exact open' (List.all_eq_true.2 fun k _ => decide_eq_true fun e => none ⟨k, e⟩)

/-- A pending proposal with one host's vote changed, some vote being outstanding still. -/
theorem State.AccordLaw.withVote (law : s.AccordLaw) {q : Proposal} (hq : s.accord.proposal = some q)
    (other : q.proposer ≠ h) {v : Option Vote}
    (pending : ¬ ({ q with votes := q.votes.set h v } : Proposal).agreed = true) :
    (s.setAccord { s.accord with proposal := some { q with votes := q.votes.set h v } }).AccordLaw :=
  State.accordLaw_of_pending law.active rfl (law.proposed q hq) (law.window q hq) (law.serial q hq) (law.base q hq)
    ((PerHost.get_set_ne _ _ other).trans (law.proposer q hq)) (Proposal.exists_outstanding pending)

/-! ### Hosts named by an accord -/

theorem Accord.not_names_of_idle {a : Accord} (idle : a.proposal = none) (k : HostId) : ¬ a.names k :=
  fun ⟨_, hq, _⟩ => nomatch idle.symm.trans hq

theorem Accord.names_of_pending {a : Accord} {q : Proposal} (hq : a.proposal = some q) (k : HostId) :
    a.names k ↔ q.proposer = k ∨ (q.votes.get k).isSome = true := by
  refine ⟨fun ⟨r, hr, names⟩ => ?_, fun names => ⟨q, hq, names⟩⟩
  rwa [Option.some.inj (hq.symm.trans hr)]

/-! ### The ends of a proposal (R164 to R169) -/

theorem State.moves_setAccord_idle {a : Accord} (config : s.AccordLaw → a.config.Lawful) (idle : a.proposal = none) :
    State.Moves (s, g) (s.setAccord a, g) :=
  (State.Move.accord (fun law => State.accordLaw_of_idle (config law) idle)
    fun k names => absurd names (Accord.not_names_of_idle idle k)).run

theorem State.moves_endProposal (q : Proposal) (o : AccordOutcome) (d : Option HostId) :
    State.Moves (s, g) (s.endProposal q o d, g) :=
  (State.moves_setAccord_idle (a := { s.accord with proposal := none }) (fun law => law.active) rfl).then
    (State.moves_notifyAll ..)

/-- The application of a proposal, from whatever accord its own request or vote has written. -/
theorem State.moves_applyProposal {q : Proposal} (record : s.AccordLaw → q.record.Lawful) (a : Accord) :
    State.Moves (s, g) ((s.setAccord a).applyProposal q, g) := by
  have announces : State.Moves (s, g) ((s.setAccord a).announced q, g) :=
    ((State.moves_setAccord_idle (a := { a with config := q.record, generation := a.generation + 1, proposal := none })
      record rfl).then (State.moves_notifyAll ..)).then (State.moves_notifyAll ..)
  rw [State.applyProposal_eq]
  split
  · exact announces.then State.moves_disableReception
  · exact announces

/-! ### The requests (R159 to R165) and the window's expiry (R166) -/

theorem State.moves_readConfigRequest : State.Moves (s, g) ((readConfigRequest h p s).1, g) := by
  unfold readConfigRequest
  split <;> exact .refl

theorem State.vote_newProposal (r : ConfigRecord) (k : HostId) :
    (s.newProposal h r).votes.get k = if k ≠ h ∧ s.attached k = true then some .outstanding else none := by
  cases k <;> rfl

theorem State.moves_proposeRequest (there : s.attached h = true) :
    State.Moves (s, g) ((proposeRequest h p s).1, g) := by
  simp only [proposeRequest]
  split
  · exact .refl
  split
  · exact .refl
  split
  · exact .refl
  split
  · exact .refl
  next r read =>
  have record := lawful_of_configRecordOf read
  split
  · exact State.moves_applyProposal (fun _ => record) _
  next voters =>
  have outstanding : ∃ k, (s.newProposal h r).votes.get k = some .outstanding := by
    obtain ⟨k, hk⟩ := List.exists_mem_of_ne_nil _ (mt List.isEmpty_iff.2 voters)
    obtain ⟨-, vote⟩ := List.mem_filter.1 hk
    rw [State.vote_newProposal] at vote
    refine ⟨k, (State.vote_newProposal r k).trans (if_pos ?_)⟩
    by_contra none
    simp [none] at vote
  refine (State.Move.accord (a := { s.accord with
      lastSerial := (s.newProposal h r).serial, proposal := some (s.newProposal h r) })
    (fun law => State.accordLaw_of_pending law.active rfl record law.active.accordWindow.2 rfl rfl
    ((State.vote_newProposal r h).trans (if_neg fun e => e.1 rfl)) outstanding) fun k names => .inr ?_).run.then
    (State.moves_notifyAll ..)
  obtain rfl | vote := (Accord.names_of_pending rfl k).1 names
  · exact there
  · rw [State.vote_newProposal] at vote
    by_contra gone
    simp [gone] at vote

/-- A voter of a lawful proposal is not its proposer. -/
theorem State.AccordLaw.proposer_ne (law : s.AccordLaw) {q : Proposal} (hq : s.accord.proposal = some q) {v : Vote}
    (voter : q.votes.get h = some v) : q.proposer ≠ h :=
  fun e => by
    subst e
    exact nomatch (law.proposer q hq).symm.trans voter

/-- A vote changed or taken away. -/
theorem State.moves_setVote {q : Proposal} {v : Vote} {w : Option Vote} (hq : s.accord.proposal = some q)
    (voter : q.votes.get h = some v) (pending : ¬ ({ q with votes := q.votes.set h w } : Proposal).agreed = true) :
    State.Moves (s, g) (s.setAccord { s.accord with proposal := some { q with votes := q.votes.set h w } }, g) := by
  refine (State.Move.accord (fun law => law.withVote hq (law.proposer_ne hq voter) pending) fun k names => .inl ?_).run
  rw [Accord.names_of_pending hq]
  refine ((Accord.names_of_pending (q := { q with votes := q.votes.set h w }) rfl k).1 names).imp_right fun vote => ?_
  by_cases e : k = h
  · rw [e, voter]
    rfl
  · rwa [PerHost.get_set_ne _ _ e] at vote

theorem State.proposal_of_proposalOf {serial : Word16} {q : Proposal} (hq : s.proposalOf serial = some q) :
    s.accord.proposal = some q := (Option.filter_eq_some_iff.1 hq).1

theorem State.moves_endorseRequest : State.Moves (s, g) ((endorseRequest h p s).1, g) := by
  simp only [endorseRequest]
  split
  · exact .refl
  split
  · exact .refl
  next q found =>
  have hq := State.proposal_of_proposalOf found
  split
  · exact .refl
  · exact .refl
  next vote =>
  split
  · exact State.moves_applyProposal (q := { q with votes := q.votes.set h (some .endorsed) })
      (fun law => law.proposed q hq) _
  · next pending => exact State.moves_setVote hq vote pending

theorem State.moves_declineRequest : State.Moves (s, g) ((declineRequest h p s).1, g) := by
  simp only [declineRequest]
  repeat' split
  any_goals exact .refl
  exact State.moves_endProposal ..

theorem State.moves_withdrawRequest : State.Moves (s, g) ((withdrawRequest h p s).1, g) := by
  unfold withdrawRequest
  repeat' split
  any_goals exact .refl
  exact State.moves_endProposal ..

theorem State.moves_accordWindowExpired : State.Moves (s, g) (accordWindowExpired s, g) := by
  unfold accordWindowExpired
  repeat' split
  any_goals exact .refl
  exact State.moves_endProposal ..

/-! ### The detach clean-up (R179) -/

theorem State.moves_detachAccord : State.Moves (s, g) (s.detachAccord h, g) := by
  rcases hq : s.accord.proposal with _ | q
  · rw [State.detachAccord_of_none hq]
    exact .refl
  by_cases own : q.proposer = h
  · rw [State.detachAccord_of_proposer hq own]
    exact State.moves_endProposal ..
  cases vote : (q.votes.get h).isSome
  · rw [State.detachAccord_of_other hq own vote]
    exact .refl
  · obtain ⟨v, hv⟩ := Option.isSome_iff_exists.1 vote
    rw [State.detachAccord_of_voter hq own vote]
    split
    · exact State.moves_applyProposal (q := q.without h) (fun law => law.proposed q hq) _
    · next pending =>
      rw [← Proposal.agreed_without] at pending
      exact State.moves_setVote hq hv pending

/-- No accord names a host once the Accord Unit's part of its detach is done. -/
theorem State.not_names_detachAccord : ¬ (s.detachAccord h).accord.names h := by
  rw [State.accord_detachAccord, State.detachedAccord]
  rcases hq : s.accord.proposal with _ | q
  · exact Accord.not_names_of_idle hq h
  by_cases own : q.proposer = h
  · simp only [own, if_true]
    exact Accord.not_names_of_idle rfl h
  by_cases vote : q.votes.get h = none
  · simp only [own, vote, if_true, if_false]
    rw [Accord.names_of_pending hq]
    simp [own, vote]
  · simp only [own, vote, if_false]
    split
    · exact Accord.not_names_of_idle rfl h
    · rw [Accord.names_of_pending (q := { q with votes := q.votes.set h none }) rfl]
      simp [own]

/-- The transmit side's part of a detach marks the host's frame on the path. -/
theorem State.discarded_discardOf : ∀ f ∈ (s.discardOf h).arbiter.path, f.sender = h → f.discard = true := by
  intro f hf own
  obtain ⟨e, -, rfl⟩ := Option.map_eq_some_iff.1 hf
  split
  · rfl
  · next other => simp [other] at own

theorem State.moves_cleanUp (cause : DetachCause) (owed : g.owed = none) (leaving : g.leaving = none) :
    State.Moves (s, g) (s.cleanUp h cause, g) := by
  obtain ⟨refs, o, l⟩ := g
  obtain rfl : o = none := owed
  obtain rfl : l = none := leaving
  have unnamed := s.not_names_detachTable h
  have goes := s.moves_detachTable ⟨refs, none, none⟩ h
  simp only [State.cleanUp, State.setDetachCause]
  generalize s.detachTable h = t at unnamed goes ⊢
  have leaves := ((goes.then (State.Move.discard (h := h)).run).then
    (State.Move.detach (s := t.discardOf h) unnamed State.discarded_discardOf rfl rfl).run).then
    (State.moves_dropRefs _ _ ⟨refs, none, some h⟩)
  have same : ((t.discardOf h).setSite h ((t.discardOf h).host h).left).dropRefs ((t.discardOf h).positionHandles h) =
      (t.detachHost h).detachTransmit h := by
    rw [State.detachTransmit_detachHost, State.dropRefs_eq]
    rfl
  rw [same] at leaves
  have departs : State.Moves (((t.detachHost h).detachTransmit h).detachAccord h, ⟨refs, none, some h⟩)
      (((t.detachHost h).detachTransmit h).detachAccord h, ⟨refs, none, none⟩) :=
    (State.Move.leave rfl State.not_names_detachAccord).run
  exact ((leaves.then State.moves_detachAccord).then departs).then (State.moves_setPort ..)

end

end Sys2Proof.Machine
end

section
/-! Every step is a run of moves, with nothing in hand before and after it. -/

namespace Sys2Proof.Machine

section
variable {s : State} {h : HostId}

/-! ### Requests -/

/-- What a command does is a run of moves, where the generic checks let the host send it. -/
theorem State.moves_serve {c : Command} (p : List Byte) (there : c.needsAttachment = true → s.attached h = true)
    (gone : c = .attach → s.attached h = false) : State.Moves (s, .empty) ((serve h c p s).1, .empty) := by
  cases c with
  | attach => exact State.moves_attachRequest (p := p) (gone rfl)
  | detach => exact State.moves_cleanUp .command rfl rfl
  | identify | readWake | readTick => exact .refl
  | readNotices => exact State.moves_readNoticesRequest (p := p)
  | setNoticeMask => exact State.moves_setNoticeMaskRequest (there rfl)
  | readCounters => exact State.moves_readCountersRequest (p := p)
  | clearCounters => exact State.moves_clearCountersRequest (p := p)
  | stage => exact State.moves_stageRequest (there rfl)
  | bind => exact State.moves_bindRequest
  | yield => exact State.moves_yieldRequest
  | setAction => exact State.moves_setActionRequest
  | join => exact State.moves_joinRequest (there rfl)
  | leave => exact State.moves_leaveRequest
  | offer => exact State.moves_offerRequest
  | accept => exact State.moves_acceptRequest (there rfl)
  | refuse => exact State.moves_refuseRequest
  | retract => exact State.moves_retractRequest
  | renew => exact State.moves_renewRequest
  | lookup => exact State.moves_lookupRequest
  | listHeld => exact State.moves_listHeldRequest (p := p)
  | poolStatus => exact State.moves_poolStatusRequest (p := p)
  | lineStatus => exact State.moves_lineStatusRequest (p := p)
  | readFrame => exact State.moves_readFrameRequest (p := p)
  | ackFrame => exact State.moves_ackFrameRequest (there rfl)
  | queueStatus => exact State.moves_queueStatusRequest (p := p)
  | doze => exact State.moves_dozeRequest (p := p) (there rfl)
  | sleep => exact State.moves_sleepRequest (there rfl)
  | resume => exact State.moves_resumeRequest (p := p) (there rfl)
  | setHostParams => exact State.moves_setHostParamsRequest
  | submit => exact State.moves_submitRequest (there rfl)
  | readCompletions => exact State.moves_readCompletionsRequest (p := p)
  | readConfig => exact State.moves_readConfigRequest (p := p)
  | propose => exact State.moves_proposeRequest (there rfl)
  | endorse => exact State.moves_endorseRequest
  | decline => exact State.moves_declineRequest
  | withdraw => exact State.moves_withdrawRequest

/-- What the generic checks let through (R173, checks 4 and 5). -/
theorem attachment_of_genericCheck {req : List Byte} {c : Command} (passes : genericCheck s h req = .ok c) :
    (c.needsAttachment = true → s.attached h = true) ∧ (c = .attach → s.attached h = false) := by
  unfold genericCheck at passes
  repeat' split at passes
  all_goals cases passes
  next needs attach =>
  exact ⟨fun n => by simpa [n] using needs, fun e => by simpa [e] using attach⟩

theorem State.moves_answer (req : List Byte) : State.Moves (s, .empty) ((s.answer h req).1, .empty) := by
  unfold State.answer
  split
  · exact .refl
  · next passes =>
    obtain ⟨there, gone⟩ := attachment_of_genericCheck passes
    exact State.moves_serve _ there gone

theorem State.moves_shiftIn (bytes : List Byte) : State.Moves (s, .empty) (s.shiftIn h bytes, .empty) := by
  simp only [State.shiftIn]
  repeat' split
  any_goals exact .refl
  · exact State.moves_setPort ..
  · exact State.moves_setPort ..
  · exact (State.moves_answer _).then (State.moves_setPort ..)

/-! ### The port lines and device reset (R171, R177, R181) -/

theorem State.moves_beginTransaction {g : Hand} : State.Moves (s, g) (s.beginTransaction h, g) := by
  simp only [State.beginTransaction]
  repeat' split
  any_goals exact .refl
  exact State.moves_setPort ..

theorem State.moves_endTransaction {g : Hand} : State.Moves (s, g) (s.endTransaction h, g) := by
  unfold State.endTransaction
  split
  · exact .refl
  · exact State.moves_setPort ..

theorem State.moves_portResetAsserted : State.Moves (s, .empty) (portResetAsserted h s, .empty) := by
  simp only [portResetAsserted]
  split
  · exact (State.moves_setPort ..).then (State.moves_cleanUp .portReset rfl rfl)
  · exact State.moves_setPort ..

theorem State.moves_deviceResetBegun (cause : ResetCause) :
    State.Moves (s, .empty) (deviceResetBegun cause s, .empty) :=
  (State.Move.reset (s := s) (t := deviceResetBegun cause s) ⟨rfl, rfl, rfl, rfl, rfl, rfl⟩).run

theorem State.moves_deviceResetEnded : State.Moves (s, .empty) (deviceResetEnded s, .empty) := by
  simp only [deviceResetEnded]
  split
  · exact .refl
  next cause _ =>
  have cleared : State.Moves (s, .empty)
      ({ s.blocksReset with resetting := none, resetCause := cause }, .empty) :=
    (State.Move.reset (s := s) (t := { s.blocksReset with resetting := none, resetCause := cause })
      ⟨rfl, rfl, rfl, rfl, rfl, rfl⟩).run
  split
  · exact cleared.then State.moves_lineWentUp
  · exact cleared

/-! ### The step -/

theorem State.moves_setLink {g : Hand} (b : Bool) : State.Moves (s, g) (s.setLink b, g) :=
  (State.Move.idle (s := s) (t := s.setLink b) ⟨rfl, rfl, rfl, rfl, rfl, rfl, fun _ => rfl⟩).run

/-- An event that takes no effect while a device reset lasts, or another one. -/
theorem State.moves_ite {x : State × Hand} {b : Prop} [Decidable b] {t u : State} (yes : State.Moves x (t, .empty))
    (no : State.Moves x (u, .empty)) : State.Moves x (if b then t else u, .empty) := by
  split
  · exact yes
  · exact no

/-- A command runs on to a next state, by moves. -/
theorem exec_moves (i : Instr) (s : State) : ∃ t, exec i s = .next t ∧ State.Moves (s, .empty) (t, .empty) := by
  cases i with
  | selectAsserted h => exact ⟨_, rfl, State.moves_beginTransaction⟩
  | selectReleased h => exact ⟨_, rfl, State.moves_endTransaction⟩
  | portReset h => exact ⟨_, rfl, State.moves_ite (State.moves_setPort ..) State.moves_portResetAsserted⟩
  | portResetRelease h => exact ⟨_, rfl, State.moves_setPort ..⟩
  | deviceReset cause => exact ⟨_, rfl, State.moves_deviceResetBegun cause⟩
  | resetEnd => exact ⟨_, rfl, State.moves_deviceResetEnded⟩
  | tick => exact ⟨_, rfl, State.moves_ite .refl State.Move.tick.run⟩
  | probeWindowExpiry j => exact ⟨_, rfl, State.moves_ite .refl State.moves_probeWindowExpired⟩
  | stageHoldExpiry j => exact ⟨_, rfl, State.moves_ite .refl State.moves_stageHoldExpired⟩
  | offerExpiry j => exact ⟨_, rfl, State.moves_ite .refl State.moves_offerExpired⟩
  | leaseRunOut j => exact ⟨_, rfl, State.moves_ite .refl State.moves_leaseRanOut⟩
  | graceExpiry j => exact ⟨_, rfl, State.moves_ite .refl State.moves_graceExpired⟩
  | dozeDelayExpiry h => exact ⟨_, rfl, State.moves_ite .refl State.moves_dozeDelayExpired⟩
  | alarmExpiry h => exact ⟨_, rfl, State.moves_ite .refl State.moves_alarmExpired⟩
  | attemptExpiry h => exact ⟨_, rfl, State.moves_ite .refl State.moves_attemptExpired⟩
  | restExpiry h => exact ⟨_, rfl, State.moves_ite .refl State.moves_restExpired⟩
  | accordWindowExpiry => exact ⟨_, rfl, State.moves_ite .refl State.moves_accordWindowExpired⟩
  | lineUpEvent => exact ⟨_, rfl, State.moves_ite (State.moves_setLink true) State.moves_lineWentUp⟩
  | lineDownEvent => exact ⟨_, rfl, State.moves_ite (State.moves_setLink false) (State.moves_lineWentDown rfl)⟩
  | frameStart => exact ⟨_, rfl, State.moves_ite .refl State.moves_frameStarted⟩
  | receptionCellNeed b => exact ⟨_, rfl, State.moves_ite .refl (State.moves_cellNeedMet b)⟩
  | wireFrameEnd => exact ⟨_, rfl, State.moves_ite .refl State.moves_wireFrameEnded⟩
  | grant => exact ⟨_, rfl, State.moves_ite .refl (State.moves_granted rfl)⟩
  | sendCompletion => exact ⟨_, rfl, State.moves_ite .refl (State.moves_sendCompleted rfl)⟩
  | wholeByteReceived b => exact ⟨_, rfl, State.moves_ite .refl (State.moves_byteReceived b)⟩
  | receiveErrorMarked => exact ⟨_, rfl, State.moves_ite .refl State.moves_errorMarked⟩
  -- every other row is a request
  | _ => exact ⟨_, rfl, State.moves_shiftIn _⟩

/-- Every step is a run of moves. -/
theorem moves_of_step {t : State} (run : step s = .next t) : State.Moves (s, .empty) (t, .empty) := by
  unfold step at run
  split at run
  · cases run
    exact .refl
  · next i rest _ =>
    obtain ⟨u, next, moves⟩ := exec_moves i { s with pending := rest }
    cases next.symm.trans run
    exact (State.Move.idle (s := s) (t := { s with pending := rest })
      ⟨rfl, rfl, rfl, rfl, rfl, rfl, fun _ => rfl⟩).run.then moves

/-- A law that every move keeps is kept by every step. -/
theorem keeps_of_step {P : State × Hand → Prop} (kept : ∀ x y, State.Move x y → P x → P y) {t : State}
    (run : step s = .next t) (hs : P (s, .empty)) : P (t, .empty) :=
  (moves_of_step run).keeps kept hs

end

end Sys2Proof.Machine
end

section
/-! The laws of the station table and of the accord are kept (R1, R2, R3, R158 to R168). -/

namespace Sys2Proof.Machine

section
variable {s t : State}

theorem State.AccordLaw.congr (law : s.AccordLaw) (same : t.accord = s.accord) : t.AccordLaw := by
  obtain ⟨active, proposed, window, serial, base, proposer, outstanding⟩ := law
  constructor <;> rw [same] <;> assumption

theorem State.TableLaw.congr (law : s.TableLaw) (same : t.table = s.table) : t.TableLaw := by
  have entry (i : Index) : t.entry i = s.entry i := by rw [State.entry, same, State.entry]
  exact ⟨fun i => entry i ▸ law.entries i, fun i j => by rw [entry, entry]; exact law.unique i j⟩

/-- A tick lowers the window of a pending proposal and no more. -/
theorem State.AccordLaw.ticked (law : s.AccordLaw) : (ticked s).AccordLaw := by
  have from' {P Q : Proposal → Prop} (old : ∀ q ∈ s.accord.proposal, P q)
      (step : ∀ q, P q → Q { q with window := q.window - 1 }) : ∀ q ∈ (Machine.ticked s).accord.proposal, Q q := by
    intro q hq
    obtain ⟨r, hr, rfl⟩ := Option.map_eq_some_iff.1 hq
    exact step r (old r hr)
  exact ⟨law.active, from' law.proposed fun _ => id, from' law.window fun q low => (Nat.sub_le ..).trans low,
    from' law.serial fun _ => id, from' law.base fun _ => id, from' law.proposer fun _ => id,
    from' law.outstanding fun _ => id⟩

theorem EntryUse.Lawful.tick {e : Entry} (law : e.use.Lawful) : e.tick.use.Lawful := by
  unfold Entry.tick
  split
  · next hu =>
    rw [hu] at law
    exact Claim.Lawful.tick law
  · exact law

theorem Entry.address?_tick (e : Entry) : e.tick.address? = e.address? := by
  unfold Entry.tick
  split
  · next hu => simp only [Entry.address?, hu]; rfl
  · rfl

theorem State.TableLaw.ticked (law : s.TableLaw) : (ticked s).TableLaw := by
  refine ⟨fun i => ?_, fun i j => ?_⟩
  · rw [State.entry_ticked]
    exact (law.entries i).tick
  · rw [State.entry_ticked, State.entry_ticked, Entry.address?_tick, Entry.address?_tick]
    exact law.unique i j

/-- An entry replaced by a lawful one whose address no other entry holds. -/
theorem State.TableLaw.setEntry (law : s.TableLaw) {i : Index} {e : Entry} (lawful : e.use.Lawful)
    (fresh : ∀ a, e.address? = some a → ∀ j, (s.entry j).address? = some a → j = i) : (s.setEntry i e).TableLaw := by
  refine ⟨fun j => ?_, fun j k present same => ?_⟩
  · rw [State.entry_setEntry]
    split
    · exact lawful
    · exact law.entries j
  · obtain ⟨a, ha⟩ := Option.ne_none_iff_exists'.1 present
    have hk := same ▸ ha
    rw [State.entry_setEntry] at ha hk
    split at ha
    · next ej =>
      split at hk
      · next ek => rw [ej, ek]
      · exact ej.trans (fresh a ha k hk).symm
    · split at hk
      · next ek => exact (fresh a hk j ha).trans ek.symm
      · exact law.unique j k (by rw [ha]; nofun) (ha.trans hk.symm)

end

/-- Every move keeps the law of the accord. -/
theorem State.AccordLaw.move {x y : State × Hand} (m : State.Move x y) (law : x.1.AccordLaw) : y.1.AccordLaw := by
  cases m with
  | accord lawful => exact lawful law
  | tick => exact State.AccordLaw.ticked law
  | reset cleared => exact accordLaw_reset.congr cleared.accord
  | idle alike => exact law.congr alike.accord
  | _ => exact law.congr (by simp [State.setSite, State.discardOf, State.takeRecord])

/-- In a state with the law of the accord every move keeps the laws of the table. -/
theorem State.TableLaw.move {x y : State × Hand} (m : State.Move x y) (accord : x.1.AccordLaw) (law : x.1.TableLaw) :
    y.1.TableLaw := by
  cases m with
  | entry lawful address => exact law.setEntry (lawful accord law) (address law)
  | tick => exact State.TableLaw.ticked law
  | reset cleared => exact tableLaw_reset.congr cleared.table
  | idle alike => exact law.congr alike.table
  | _ => exact law.congr (by simp [State.setSite, State.discardOf, State.takeRecord])

/-- Settles O53: each move keeps them. -/
theorem stepKeepsTheTableAndAccordLaws : Obligations.StepKeepsTheTableAndAccordLaws := by
  unfold Obligations.StepKeepsTheTableAndAccordLaws
  refine fun s t law run => ⟨keeps_of_step (P := fun x => x.1.AccordLaw) (fun _ _ m => .move m) run law,
      fun table => ?_⟩
  exact (keeps_of_step (P := fun x => x.1.AccordLaw ∧ x.1.TableLaw)
    (fun _ _ m h => ⟨h.1.move m, h.2.move m h.1⟩) run ⟨law, table⟩).2

end Sys2Proof.Machine
end

section
/-! The pool law and the canonical form of the store are kept (R65, R68). -/

namespace Sys2Proof.Machine

/-- A sum over the records in which one term changes. -/
theorem sum_finRange_change {n : Nat} {f f' : Fin n → Nat} {r : Fin n} (same : ∀ q, q ≠ r → f' q = f q) :
    ((List.finRange n).map f').sum + f r = ((List.finRange n).map f).sum + f' r := by
  have old := Finset.add_sum_erase Finset.univ f (Finset.mem_univ r)
  have new := Finset.add_sum_erase Finset.univ f' (Finset.mem_univ r)
  have rest : ∑ q ∈ Finset.univ.erase r, f' q = ∑ q ∈ Finset.univ.erase r, f q :=
    Finset.sum_congr rfl fun q hq => same q (Finset.ne_of_mem_erase hq)
  rw [← Fin.sum_univ_def, ← Fin.sum_univ_def]
  omega

section
variable {s t : State}

theorem State.record_congr (same : t.pool = s.pool) (r : Handle) : t.record r = s.record r := by
  rw [State.record, same, State.record]

theorem State.PoolLaw.congr (law : s.PoolLaw) (same : t.pool = s.pool) : t.PoolLaw := by
  have record := State.record_congr same
  exact ⟨fun c => by simp only [same, record]; exact law.cells c, fun r => by rw [same, record]; exact law.records r⟩

/-- One record changed, and with it the free lists. -/
theorem State.PoolLaw.update (law : s.PoolLaw) {r : Handle} {o : Option FrameRecord}
    (record : ∀ q, t.record q = if q = r then o else s.record q)
    (cells : ∀ c, t.pool.freeCells.count c + (chainOf o).count c =
      s.pool.freeCells.count c + (chainOf (s.record r)).count c)
    (self : t.pool.freeRecords.count r = if o = none then 1 else 0)
    (others : ∀ q, q ≠ r → t.pool.freeRecords.count q = s.pool.freeRecords.count q) : t.PoolLaw := by
  refine ⟨fun c => ?_, fun q => ?_⟩
  · have total := law.cells c
    have changed : ((List.finRange Config.recordCount).map (fun q => (chainOf (t.record q)).count c)).sum +
        (chainOf (s.record r)).count c =
          ((List.finRange Config.recordCount).map (fun q => (chainOf (s.record q)).count c)).sum +
            (chainOf (t.record r)).count c :=
      sum_finRange_change (f := fun q => (chainOf (s.record q)).count c)
        (f' := fun q => (chainOf (t.record q)).count c) fun q hq => by rw [record, if_neg hq]
    have moved := cells c
    rw [record, if_pos rfl] at changed
    omega
  · by_cases e : q = r
    · rw [e, self, record, if_pos rfl]
    · rw [others q e, record, if_neg e, law.records]

theorem State.PoolLaw.setRecord (law : s.PoolLaw) {r : Handle} {rec rec' : FrameRecord} (hr : s.record r = some rec)
    (chain : rec'.chain = rec.chain) : (s.setRecord r (some rec')).PoolLaw := by
  refine law.update (fun q => State.record_setRecord ..) (fun c => ?_) ?_ fun _ _ => rfl
  · rw [hr]
    exact congrArg (s.pool.freeCells.count c + List.count c ·) chain
  · exact (law.records r).trans (if_neg (by rw [hr]; nofun))

theorem State.record_freeRecord (s : State) (r q : Handle) (chain : List CellId) :
    (s.freeRecord r chain).record q = if q = r then none else s.record q := State.record_setRecord s r q none

theorem State.PoolLaw.freeRecord (law : s.PoolLaw) {r : Handle} {rec : FrameRecord} (hr : s.record r = some rec) :
    (s.freeRecord r rec.chain).PoolLaw := by
  have out : s.pool.freeRecords.count r = 0 := (law.records r).trans (if_neg (by rw [hr]; nofun))
  refine law.update (fun q => State.record_freeRecord ..) (fun c => ?_) ?_ fun q other => ?_
  · simp [State.freeRecord, hr, chainOf]
  · simp [State.freeRecord, out]
  · simp [State.freeRecord, other.symm]

theorem State.PoolLaw.dropRef (law : s.PoolLaw) (r : Handle) : (s.dropRef r).PoolLaw := by
  cases hr : s.record r with
  | none => rwa [State.dropRef_of_free hr]
  | some rec =>
    by_cases last : rec.refs ≤ 1
    · exact State.dropRef_of_last hr last ▸ law.freeRecord hr
    · rw [State.dropRef_of_many hr (Nat.lt_of_not_le last)]
      exact law.setRecord hr rfl

/-- The head of the free record list is a free record, and stands there once. -/
theorem State.PoolLaw.head_free (law : s.PoolLaw) {r : Handle} {rest : List Handle}
    (free : s.pool.freeRecords = r :: rest) : s.record r = none ∧ rest.count r = 0 := by
  have count := law.records r
  rw [free, List.count_cons_self] at count
  split at count
  · next none => exact ⟨none, by omega⟩
  · omega

/-- A record taken from the head of the free record list. -/
theorem State.PoolLaw.taken (law : s.PoolLaw) {r : Handle} {rest : List Handle} {rec : FrameRecord}
    (free : s.pool.freeRecords = r :: rest) (record : ∀ q, t.record q = if q = r then some rec else s.record q)
    (records : t.pool.freeRecords = rest)
    (cells : ∀ c, t.pool.freeCells.count c + rec.chain.count c = s.pool.freeCells.count c) : t.PoolLaw := by
  obtain ⟨none, once⟩ := law.head_free free
  refine law.update record (fun c => ?_) ?_ fun q other => ?_
  · rw [none]
    exact cells c
  · rw [records, once, if_neg nofun]
  · rw [records, free, List.count_cons_of_ne other.symm]

theorem State.PoolLaw.receive (law : s.PoolLaw) {r : Handle} {rest : List Handle}
    (free : s.pool.freeRecords = r :: rest) (y : Option Reception) :
    ((s.takeRecord r rest s.receivingRecord).setReception y).PoolLaw :=
  law.taken free (fun q => State.record_setRecord s r q (some s.receivingRecord)) rfl fun _ => rfl

theorem State.PoolLaw.storeFrame (law : s.PoolLaw) {r : Handle} {rest : List Handle}
    (free : s.pool.freeRecords = r :: rest) (h : HostId) (frame : List Byte) :
        (s.storeFrame h r rest frame).PoolLaw := by
  refine law.taken free (fun q => State.record_setRecord s r q _) rfl fun c => ?_
  show (s.pool.freeCells.drop _).count c + (s.pool.freeCells.take _).count c = _
  rw [Nat.add_comm, ← List.count_append, List.take_append_drop]

/-- The record that a stored byte leaves, and the free cells. -/
theorem State.PoolLaw.storeByte (law : s.PoolLaw) {r : Handle} {rec : FrameRecord} (hr : s.record r = some rec)
    (k : Nat)
    (b : Byte) : ({ s with pool := s.pool.storeByte r rec k b } : State).PoolLaw := by
  have taken : s.pool.freeRecords.count r = 0 := (law.records r).trans (if_neg (by rw [hr]; nofun))
  unfold Pool.storeByte
  split
  · exact ⟨law.cells, law.records⟩
  split
  · next empty =>
    refine law.update (fun q => State.record_setRecord s r q _) (fun c => ?_) taken fun _ _ => rfl
    simp [hr, empty, chainOf]
  · next c rest free =>
    refine law.update (fun q => State.record_setRecord s r q _) (fun c => ?_) taken fun _ _ => rfl
    simp only [hr, free, chainOf, List.count_append, List.count_cons, List.count_nil]
    omega

/-! ### The canonical form of the store -/

theorem storeWf_storeByte {p : Pool} (form : storeWf p.store) (r : Handle) (rec : FrameRecord) (k : Nat) (b : Byte) :
    storeWf (p.storeByte r rec k b).store := by
  unfold Pool.storeByte
  repeat' split
  · exact storeWf_writeChainByte form ..
  · exact form
  · exact storeWf_writeChainByte form ..

theorem Pool.store_dropRef (p : Pool) (r : Handle) : (p.dropRef r).store = p.store := by
  unfold Pool.dropRef
  repeat' split
  all_goals rfl

theorem State.store_takeRef (s : State) (r : Handle) : (s.takeRef r).pool.store = s.pool.store := by
  unfold State.takeRef
  split <;> rfl

end

/-! ### Every move -/

theorem State.PoolLaw.move {x y : State × Hand} (m : State.Move x y) (law : x.1.PoolLaw) : y.1.PoolLaw := by
  cases m with
  | idle alike => exact law.congr alike.pool
  | reset cleared => exact poolLaw_reset.congr cleared.pool
  | @take s g r mem =>
    cases hr : s.record r with
    | none =>
      show (s.takeRef r).PoolLaw
      rwa [State.takeRef_of_free hr]
    | some rec =>
      show (s.takeRef r).PoolLaw
      rw [State.takeRef_of_record hr]
      exact law.setRecord hr rfl
  | drop => exact law.dropRef _
  | @unsend s _ _ _ => exact State.PoolLaw.dropRef (s := s.setPath none) (law.congr rfl) _
  | record hr chain => exact law.setRecord hr chain
  | receive free => exact law.receive free _
  | submit free => exact law.storeFrame free _ _
  | store _ hr => exact law.storeByte hr _ _
  | _ => exact law.congr (by simp [State.setSite, State.discardOf, ticked])

theorem storeWf_move {x y : State × Hand} (m : State.Move x y) (form : storeWf x.1.pool.store) :
    storeWf y.1.pool.store := by
  cases m with
  | idle alike => exact alike.pool ▸ form
  | reset cleared => exact cleared.pool ▸ storeWf_reset
  | take => rwa [State.store_takeRef]
  | drop => rwa [State.pool_dropRef, Pool.store_dropRef]
  | unsend => rwa [State.pool_dropRef, Pool.store_dropRef]
  | submit => exact storeWf_writeChain form ..
  | store => exact storeWf_storeByte form ..
  | _ => exact form

/-- Settles O54: each move keeps them. -/
theorem stepKeepsThePoolLawAndTheStoreForm : Obligations.StepKeepsThePoolLawAndTheStoreForm := by
  unfold Obligations.StepKeepsThePoolLawAndTheStoreForm
  exact fun s t run =>
    ⟨keeps_of_step (P := fun x => x.1.PoolLaw) (fun _ _ m => .move m) run,
      keeps_of_step (P := fun x => storeWf x.1.pool.store) (fun _ _ m => storeWf_move m) run⟩

end Sys2Proof.Machine
end

section
/-! What every host keeps: the capacities of its lists, its fields by its reachability state, and a DETACHED host
without holdings (R18, R110, R120, R142, R145, R155, R179, R182). -/

namespace Sys2Proof.Machine

/-! ### The sites of a state -/

section
variable {s t : State} {h k : HostId}

theorem State.site_setSite (s : State) (h k : HostId) (τ : Site) :
    (s.setSite h τ).site k = if k = h then τ else s.site k := by
  have host : (s.setSite h τ).host k = if k = h then τ.host else s.host k := State.host_setHost ..
  have tx : (s.setSite h τ).tx k = if k = h then τ.tx else s.tx k := State.tx_setTx ..
  rw [State.site, host, tx]
  split <;> rfl

theorem State.site_setTx (s : State) (h k : HostId) (x : TxHost) :
    (s.setTx h x).site k = if k = h then ⟨s.host h, x⟩ else s.site k := by
  have host : (s.setTx h x).host k = s.host k := rfl
  rw [State.site, host, State.tx_setTx]
  split
  · next e => rw [e]
  · rfl

theorem State.site_congr (hosts : t.hosts = s.hosts) (sides : t.arbiter.hosts = s.arbiter.hosts) (k : HostId) :
    t.site k = s.site k := by
  rw [State.site, State.host, State.tx, hosts, sides]
  rfl

/-- The site of a host that is given a completion. -/
def Site.completed (σ : Site) (c : Completion) : Site := ⟨σ.host, { σ.tx with ring := σ.tx.ring ++ [c] }⟩

theorem HostCtx.quiet_tick (c : HostCtx) : c.Quiet c.tick :=
  HostCtx.quiet_of_same rfl rfl rfl rfl rfl rfl rfl (lowerTimer_isSome _) rfl (lowerTimer_isSome _)
    (lowerTimer_isSome _) rfl rfl

theorem Site.Next.refl (cells : Handle → Nat) (σ : Site) (l : List Handle) : σ.Next cells l σ l :=
  (HostCtx.quiet_of_same rfl rfl rfl rfl rfl rfl rfl rfl rfl rfl rfl rfl rfl : σ.host.Quiet σ.host).next cells σ.tx l

/-- What a move may do to the site of host `k`. -/
inductive Site.Becomes (g : Hand) (c : HostCtx) (k : HostId) (σ : Site) : Site → Prop
  | next {cells : Handle → Nat} {l m : List Handle} {τ : Site} (n : σ.Next cells l τ m) : Becomes g c k σ τ
  | left : Becomes g c k σ c.left
  | completed (owed : g.owed = some k) (x : Completion) : Becomes g c k σ (σ.completed x)
  | reset : Becomes g c k σ (State.reset.site k)

theorem Site.Becomes.same {g : Hand} {c : HostCtx} {σ τ : Site} (e : τ = σ) : σ.Becomes g c k τ := by
  subst e
  exact .next (Site.Next.refl (fun _ => 0) τ [])

theorem State.Move.site_becomes {x y : State × Hand} (m : State.Move x y) (k : HostId) :
    (x.1.site k).Becomes x.2 (x.1.host k) k (y.1.site k) := by
  cases m with
  | idle alike => exact .same (State.site_congr alike.hosts alike.sides k)
  | reset cleared =>
    exact State.site_congr cleared.hosts (congrArg Arbiter.hosts cleared.arbiter) k ▸ .reset
  | @site s g h τ m next =>
    show (s.site k).Becomes g _ k ((s.setSite h τ).site k)
    rw [State.site_setSite]
    split
    · next e => exact e ▸ .next next
    · exact .same rfl
  | @detach s g h =>
    show (s.site k).Becomes g _ k ((s.setSite h (s.host h).left).site k)
    rw [State.site_setSite]
    split
    · next e => exact e ▸ .left
    · exact .same rfl
  | @complete s g h c owed =>
    show (s.site k).Becomes g _ k ((s.setTx h _).site k)
    rw [State.site_setTx]
    split
    · next e =>
      subst e
      exact (.completed owed c : (s.site k).Becomes g (s.host k) k ((s.site k).completed c))
    · exact .same rfl
  | @tick s g =>
    have site : (ticked s).site k = ⟨(s.host k).tick, s.tx k⟩ := by
      rw [State.site, State.host_ticked]
      rfl
    exact site ▸ .next (cells := fun _ => 0) (l := []) ((s.host k).quiet_tick.next _ (s.tx k) [])
  | _ => exact .same (State.site_congr (by simp [State.discardOf, State.takeRecord]) (by
      simp [State.discardOf, State.takeRecord, State.setPath]) k)

/-! ### Reachability (R120, R137, R142, R179) -/

theorem HostCtx.inReach_left (c : HostCtx) : c.left.InReach := by constructor <;> first | rfl | nofun

theorem State.reachLaw_iff : s.ReachLaw ↔ ∀ k, (s.site k).InReach :=
  ⟨fun law k => ⟨law.depth k, law.alarm k, law.attempt k, law.attemptTimer k, law.restTimer k, law.wake k, law.mask k,
      law.nextSequence k⟩,
    fun each => ⟨fun k => (each k).depth, fun k => (each k).alarm, fun k => (each k).attempt,
      fun k => (each k).attemptTimer, fun k => (each k).restTimer, fun k => (each k).wake, fun k => (each k).mask,
      fun k => (each k).nextSequence⟩⟩

theorem State.ReachLaw.move {x y : State × Hand} (m : State.Move x y) (law : x.1.ReachLaw) : y.1.ReachLaw := by
  rw [State.reachLaw_iff] at law ⊢
  intro k
  have becomes := m.site_becomes k
  generalize y.1.site k = τ at becomes ⊢
  cases becomes with
  | next n => exact n.inReach (law k)
  | left => exact HostCtx.inReach_left _
  | completed => exact { law k with }
  | reset => exact State.reachLaw_iff.1 reachLaw_reset k

/-! ### Capacities (R110, R142, R145, R182) -/

theorem HostCtx.bounded_left {c : HostCtx} : c.left.Bounded := by constructor <;> exact Nat.zero_le _

/-- `State.CapacityLaw`, with a free place besides for the completion that a host is owed. -/
structure State.Capacity (s : State) (g : Hand) : Prop where
  each : ∀ k, (s.site k).Bounded
  place : ∀ f ∈ s.arbiter.path, f.discard = false → (s.tx f.sender).ring.length < Config.completionRingSize
  owed : ∀ k ∈ g.owed, (s.tx k).ring.length < Config.completionRingSize

theorem State.capacityLaw_iff : s.CapacityLaw ↔ s.Capacity .empty :=
  ⟨fun law => ⟨fun k => ⟨law.rxQueue k, law.holdList k, law.notices k, law.lost k, law.queue k, law.ring k⟩, law.place,
      nofun⟩,
    fun c => ⟨fun k => (c.each k).rxQueue, fun k => (c.each k).holdList, fun k => (c.each k).notices,
      fun k => (c.each k).lost, fun k => (c.each k).queue, fun k => (c.each k).ring, c.place⟩⟩

theorem State.Capacity.each_move {x y : State × Hand} (m : State.Move x y) (law : x.1.Capacity x.2) (k : HostId) :
    (y.1.site k).Bounded := by
  have becomes := m.site_becomes k
  generalize y.1.site k = τ at becomes ⊢
  cases becomes with
  | next n => exact n.bounded (law.each k)
  | left => exact HostCtx.bounded_left
  | completed owed c =>
    refine { law.each k with ring := ?_ }
    have room := law.owed k owed
    show ((x.1.tx k).ring ++ [c]).length ≤ _
    rw [List.length_append]
    exact room
  | reset => exact (State.capacityLaw_iff.1 capacityLaw_reset).each k

/-- No ring grows, and no frame is put on the path. -/
theorem State.Capacity.of_le {g g' : Hand} (law : s.Capacity g) (each : ∀ k, (t.site k).Bounded)
    (ring : ∀ k, (t.tx k).ring.length ≤ (s.tx k).ring.length)
    (path : ∀ f ∈ t.arbiter.path, f.discard = false → ∃ e ∈ s.arbiter.path, e.sender = f.sender ∧ e.discard = false)
    (owed : ∀ k ∈ g'.owed, k ∈ g.owed) : t.Capacity g' := by
  refine ⟨each, fun f hf plain => ?_, fun k hk => (ring k).trans_lt (law.owed k (owed k hk))⟩
  obtain ⟨e, he, same, plain'⟩ := path f hf plain
  exact same ▸ (ring e.sender).trans_lt (law.place e he plain')

theorem State.path_kept {p q : Option OnPath} (same : q = p) :
    ∀ f ∈ q, f.discard = false → ∃ e ∈ p, e.sender = f.sender ∧ e.discard = false :=
  fun f hf plain => ⟨f, same ▸ hf, rfl, plain⟩

theorem State.Capacity.move {x y : State × Hand} (m : State.Move x y) (law : x.1.Capacity x.2) : y.1.Capacity y.2 := by
  have each := law.each_move m
  cases m with
  | idle alike =>
    refine law.of_le each (fun k => ?_) (State.path_kept alike.path) fun _ => id
    rw [State.tx, State.tx, alike.sides]
  | reset cleared =>
    refine ⟨each, fun f hf => ?_, nofun⟩
    rw [cleared.arbiter] at hf
    cases hf
  | @site s g h τ m next =>
    refine law.of_le each (fun k => ?_) (State.path_kept rfl) fun _ => id
    show ((s.setSite h τ).site k).tx.ring.length ≤ _
    rw [State.site_setSite]
    split
    · next e => exact e ▸ next.ring
    · exact le_rfl
  | @discard s g h =>
    refine law.of_le each (fun k => le_rfl) (fun f hf plain => ?_) fun _ => id
    obtain ⟨e, he, rfl⟩ := Option.map_eq_some_iff.1 hf
    split at plain
    · cases plain
    · next other => exact ⟨e, he, by rw [if_neg other], plain⟩
  | @detach s g h =>
    refine law.of_le each (fun k => ?_) (State.path_kept rfl) nofun
    show ((s.setSite h (s.host h).left).site k).tx.ring.length ≤ _
    rw [State.site_setSite]
    split
    · exact Nat.zero_le _
    · exact le_rfl
  | owe place => exact ⟨each, law.place, by rintro k ⟨⟩; exact place⟩
  | complete owed idle => exact ⟨each, fun f hf => (nomatch idle.symm.trans hf), nofun⟩
  | @send s f rs l idle => exact ⟨each, by rintro e ⟨⟩ _; exact law.owed f.sender rfl, nofun⟩
  | @unsend s g f busy =>
    have sides : ((s.setPath none).dropRef f.handle).arbiter = { s.arbiter with path := none } :=
      State.dropRef_arbiter ..
    refine ⟨each, fun e he => ?_, fun k hk => ?_⟩
    · rw [sides] at he
      cases he
    · have plain : f.discard = false := by
        by_contra marked
        simp [marked] at hk
      rw [plain] at hk
      cases hk
      show (((s.setPath none).dropRef f.handle).arbiter.hosts.get _).ring.length < _
      rw [sides]
      exact law.place f busy plain
  | @take s g r =>
    have sides : (s.takeRef r).arbiter = s.arbiter := State.takeRef_arbiter ..
    exact law.of_le each (fun k => by rw [State.tx, sides]; exact le_rfl) (State.path_kept
        (congrArg _ sides)) fun _ => id
  | @drop s r rs o l =>
    have sides : (s.dropRef r).arbiter = s.arbiter := State.dropRef_arbiter ..
    exact law.of_le each (fun k => by rw [State.tx, sides]; exact le_rfl) (State.path_kept
        (congrArg _ sides)) fun _ => id
  | _ => exact law.of_le each (fun k => le_rfl) (State.path_kept rfl) fun _ => id

/-! ### Attachment (R18, R155, R179) -/

theorem HostCtx.bare_left {c : HostCtx} : c.left.Bare := by constructor <;> exact fun _ => rfl

/-- `State.AttachmentLaw`, with a host besides whose detach goes on and which the accord may still name, and with one
that is owed a completion. -/
structure State.Attachment (s : State) (g : Hand) : Prop where
  entries : ∀ k, s.attached k = false → ∀ i, ¬ (s.entry i).names k
  accord : ∀ k, s.attached k = false → g.leaving ≠ some k → ¬ s.accord.names k
  each : ∀ k, (s.site k).Bare
  path : ∀ f ∈ s.arbiter.path, s.attached f.sender = false → f.discard = true
  owed : ∀ k ∈ g.owed, s.attached k = true

theorem State.names_iff (s : State) (i : Index) (k : HostId) :
    (s.entry i).names k ↔ s.ownedBy k i = true ∨ (∃ x ∈ (s.entry i).group?, x.members.get k = true) ∨
      ∃ c ∈ (s.entry i).claim?, ∃ o ∈ c.offer, o.target = k := by
  cases hu : (s.entry i).use <;>
    simp [Entry.names, Claim.names, State.ownedBy, Entry.group?, Entry.claim?, hu]

theorem State.attachmentLaw_iff : s.AttachmentLaw ↔ s.Attachment .empty := by
  constructor
  · intro law
    refine ⟨fun k gone i names => ?_, fun k gone _ ⟨q, hq, named⟩ => ?_, fun k => ?_, law.path, nofun⟩
    · obtain own | ⟨x, hx, member⟩ | ⟨c, hc, o, ho, target⟩ := (s.names_iff i k).1 names
      · exact nomatch (law.owner k gone i).symm.trans own
      · exact nomatch (law.member k gone i x hx).symm.trans member
      · exact law.target k gone i c hc o ho target
    · obtain ⟨proposer, vote⟩ := law.proposal k gone q hq
      simp [proposer, vote] at named
    · have lists (gone : s.attached k = false) := law.lists k gone
      have transmit (gone : s.attached k = false) := law.transmit k gone
      exact ⟨fun gone => (lists gone).1, fun gone => (lists gone).2.1, fun gone => (lists gone).2.2.1,
        fun gone => (lists gone).2.2.2, fun gone => (transmit gone).1, fun gone => (transmit gone).2⟩
  · intro a
    have unnamed (k : HostId) (gone : s.attached k = false) (i : Index) := mt (s.names_iff i k).2 (a.entries k gone i)
    refine ⟨fun k gone i => ?_, fun k gone i x hx => ?_, fun k gone i c hc o ho target => ?_, fun k gone q hq => ?_,
      fun k gone => ?_, fun k gone => ⟨(a.each k).queue gone, (a.each k).ring gone⟩, a.path⟩
    · exact Bool.eq_false_iff.2 fun own => unnamed k gone i (.inl own)
    · exact Bool.eq_false_iff.2 fun member => unnamed k gone i (.inr (.inl ⟨x, hx, member⟩))
    · exact unnamed k gone i (.inr (.inr ⟨c, hc, o, ho, target⟩))
    · have unnamed := a.accord k gone nofun
      refine ⟨fun own => unnamed ⟨q, hq, .inl own⟩, ?_⟩
      by_contra vote
      exact unnamed ⟨q, hq, .inr (Option.isSome_iff_ne_none.2 vote)⟩
    · exact ⟨(a.each k).rxQueue gone, (a.each k).holdList gone, (a.each k).charge gone, (a.each k).notices gone⟩

theorem State.Attachment.each_move {x y : State × Hand} (m : State.Move x y) (law : x.1.Attachment x.2) (k : HostId) :
    (y.1.site k).Bare := by
  have becomes := m.site_becomes k
  generalize y.1.site k = τ at becomes ⊢
  cases becomes with
  | next n => exact n.bare (law.each k)
  | left => exact HostCtx.bare_left
  | completed owed => exact Site.bare_of_attached (law.owed k owed)
  | reset => exact (State.attachmentLaw_iff.1 attachmentLaw_reset).each k

/-- No host is detached, and no host is named that was not. -/
theorem State.Attachment.of_le {g g' : Hand} (law : s.Attachment g) (each : ∀ k, (t.site k).Bare)
    (attached : ∀ k, s.attached k = true → t.attached k = true)
    (entries : ∀ i k, (t.entry i).names k → (s.entry i).names k ∨ s.attached k = true)
    (accord : ∀ k, t.accord.names k → s.accord.names k ∨ s.attached k = true)
    (path : ∀ f ∈ t.arbiter.path, f.discard = false → s.attached f.sender = true)
    (owed : ∀ k ∈ g'.owed, s.attached k = true) (leaving : g'.leaving = g.leaving) : t.Attachment g' := by
  have before {k : HostId} (gone : t.attached k = false) : s.attached k = false :=
    Bool.eq_false_iff.2 fun there => nomatch gone.symm.trans (attached k there)
  have none {k : HostId} {P : Prop} (gone : t.attached k = false) (old : ¬ P) (or : P ∨ s.attached k = true) : False :=
    or.elim old fun there => nomatch (before gone).symm.trans there
  refine ⟨fun k gone i names => none gone (law.entries k (before gone) i) (entries i k names),
    fun k gone stays names => none gone (law.accord k (before gone) (leaving ▸ stays)) (accord k names), each,
    fun f hf gone => ?_, fun k hk => attached k (owed k hk)⟩
  by_contra marked
  exact nomatch (before gone).symm.trans (path f hf (Bool.eq_false_iff.2 marked))

variable {g g' : Hand}

/-- A frame that stays on the path, unless it is marked for discard, has its sender attached. -/
theorem State.Attachment.sender (law : s.Attachment g) : ∀ f ∈ s.arbiter.path, f.discard = false →
    s.attached f.sender = true := by
  intro f hf plain
  by_contra gone
  exact nomatch plain.symm.trans (law.path f hf (Bool.eq_false_iff.2 gone))

/-- The table, the accord, the path and the attachment of every host as they are. -/
theorem State.Attachment.congr (law : s.Attachment g) (each : ∀ k, (t.site k).Bare) (table : t.table = s.table)
    (accord : t.accord = s.accord) (path : t.arbiter.path = s.arbiter.path)
    (attached : ∀ k, s.attached k = true → t.attached k = true) (owed : g'.owed = g.owed)
    (leaving : g'.leaving = g.leaving) : t.Attachment g' := by
  refine law.of_le each attached (fun i k names => .inl ?_) (fun k names => .inl (accord ▸ names)) (path ▸ law.sender)
    (owed ▸ law.owed) leaving
  rwa [State.entry, table] at names

theorem Entry.names_tick (e : Entry) (k : HostId) : e.tick.names k ↔ e.names k := by
  cases hu : e.use with
  | free | group x => simp only [Entry.tick, hu]
  | unicast c =>
    have ticked : e.tick = { e with use := .unicast c.tick } := by simp only [Entry.tick, hu]
    rw [ticked, Entry.names_of_unicast hu, Entry.names_of_unicast rfl]
    simp [Claim.names, Claim.tick]

theorem Accord.names_tick (a : Accord) (k : HostId) : a.tick.names k ↔ a.names k := by
  simp [Accord.names, Accord.tick]

end

theorem State.Attachment.move {x y : State × Hand} (m : State.Move x y) (law : x.1.Attachment x.2) :
    y.1.Attachment y.2 := by
  have each := law.each_move m
  cases m with
  | idle alike =>
    exact law.congr each alike.table alike.accord alike.path
      (fun k there => by rw [State.attached, State.host, alike.hosts]; exact there) rfl rfl
  | reset cleared =>
    have fresh := State.attachmentLaw_iff.1 attachmentLaw_reset
    exact fresh.congr each cleared.table cleared.accord (congrArg Arbiter.path cleared.arbiter)
      (fun k there => by rw [State.attached, State.host, cleared.hosts]; exact there) rfl rfl
  | @site s g h τ m next =>
    refine law.congr each rfl rfl rfl (fun k there => ?_) rfl rfl
    show ((s.setSite h τ).site k).host.attached = true
    rw [State.site_setSite]
    split
    · next e => exact next.attached (e ▸ there)
    · exact there
  | @discard s g h =>
    refine law.of_le each (fun _ => id) (fun _ _ => .inl) (fun _ => .inl) (fun f hf plain => ?_) law.owed rfl
    obtain ⟨e, he, rfl⟩ := Option.map_eq_some_iff.1 hf
    split at plain
    · cases plain
    · next other =>
      rw [if_neg other]
      exact law.sender e he plain
  | @detach s g h unnamed discarded owed leaving =>
    have before {k : HostId} (gone : (s.setSite h (s.host h).left).attached k = false) :
        k = h ∨ s.attached k = false := by
      have site : ((s.setSite h (s.host h).left).site k).host.attached = false := gone
      rw [State.site_setSite] at site
      split at site
      · next e => exact .inl e
      · exact .inr site
    refine ⟨fun k gone i => ?_, fun k gone stays => ?_, each, fun f hf gone => ?_, nofun⟩
    · exact (before gone).elim (fun e => e ▸ unnamed i) fun gone => law.entries k gone i
    · refine (before gone).elim (fun e => absurd (congrArg some e.symm) stays) fun gone => law.accord k gone ?_
      rw [leaving]
      nofun
    · exact (before gone).elim (discarded f hf) (law.path f hf)
  | @leave s g h leaving unnamed =>
    refine ⟨law.entries, fun k gone _ => ?_, each, law.path, law.owed⟩
    by_cases e : k = h
    · exact e ▸ unnamed
    · exact law.accord k gone fun same => e (Option.some.inj (same.symm.trans leaving))
  | @owe s g h place queue =>
    refine ⟨law.entries, law.accord, each, law.path, ?_⟩
    rintro k ⟨⟩
    by_contra gone
    exact queue ((law.each h).queue (Bool.eq_false_iff.2 gone))
  | complete owed idle =>
    exact ⟨law.entries, law.accord, each, fun f hf => (nomatch idle.symm.trans hf), nofun⟩
  | @send s f rs l idle =>
    refine ⟨law.entries, law.accord, each, ?_, nofun⟩
    rintro e ⟨⟩ gone
    exact nomatch (law.owed f.sender rfl).symm.trans gone
  | @unsend s g f busy =>
    have sides : ((s.setPath none).dropRef f.handle).arbiter = { s.arbiter with path := none } :=
      State.dropRef_arbiter ..
    refine law.of_le each (fun k there => ?_) (fun i k names => .inl ?_) (fun k names => .inl ?_) (fun e he => ?_)
      (fun k hk => ?_) rfl
    · simpa [State.attached, State.host] using there
    · simpa [State.entry] using names
    · simpa using names
    · rw [sides] at he
      cases he
    · split at hk
      · cases hk
      · next plain =>
        cases hk
        exact law.sender f busy (Bool.eq_false_iff.2 plain)
  | @entry s g i e lawful address names =>
    refine law.of_le each (fun _ => id) (fun j k named => ?_) (fun _ => .inl) law.sender law.owed rfl
    rw [State.entry_setEntry] at named
    split at named
    · next same => exact same ▸ names k named
    · exact .inl named
  | accord lawful names => exact law.of_le each (fun _ => id) (fun _ _ => .inl) names law.sender law.owed rfl
  | @tick s g =>
    refine law.of_le each (fun k there => ?_) (fun i k named => .inl ?_)
      (fun k named => .inl ((Accord.names_tick _ k).1 named)) law.sender law.owed rfl
    · rw [State.attached, State.host_ticked]
      exact there
    · rw [State.entry_ticked] at named
      exact (Entry.names_tick _ k).1 named
  | @take s g r =>
    exact law.congr each (by simp) (by simp) (congrArg Arbiter.path (State.takeRef_arbiter ..))
      (fun k there => by simpa [State.attached, State.host] using there) rfl rfl
  | @drop s r rs o l =>
    exact law.congr each (by simp) (by simp) (congrArg Arbiter.path (State.dropRef_arbiter ..))
      (fun k there => by simpa [State.attached, State.host] using there) rfl rfl
  | _ => exact law.congr each rfl rfl rfl (fun _ => id) rfl rfl

/-! ### Frames held behind a full queue (R110) -/

theorem State.heldLaw_iff {s : State} : s.HeldLaw ↔ ∀ k, (s.site k).Held := .rfl

theorem State.HeldLaw.move {x y : State × Hand} (m : State.Move x y) (capacity : x.1.Capacity x.2)
    (attachment : x.1.Attachment x.2) (law : x.1.HeldLaw) : y.1.HeldLaw := by
  rw [State.heldLaw_iff] at law ⊢
  intro k
  have becomes := m.site_becomes k
  generalize y.1.site k = τ at becomes ⊢
  cases becomes with
  | next n => exact n.held (capacity.each k) (attachment.each k) (law k)
  | left => exact fun awake => nomatch awake
  | completed => exact law k
  | reset => exact heldLaw_reset k

/-- Settles O57: each move keeps the capacities with the place owed, the attachment with the detach that goes on, and in
a state with both the held frames behind a full queue. -/
theorem stepKeepsTheListsOfEveryHost : Obligations.StepKeepsTheListsOfEveryHost := by
  unfold Obligations.StepKeepsTheListsOfEveryHost
  refine fun s t run => ⟨fun law => ?_, fun law => ?_, fun capacity attachment held => ?_⟩
  · exact State.capacityLaw_iff.2 (keeps_of_step (P := fun x => x.1.Capacity x.2) (fun _ _ m => .move m) run
      (State.capacityLaw_iff.1 law))
  · exact State.attachmentLaw_iff.2 (keeps_of_step (P := fun x => x.1.Attachment x.2) (fun _ _ m => .move m) run
      (State.attachmentLaw_iff.1 law))
  · exact (keeps_of_step (P := fun x => x.1.Capacity x.2 ∧ x.1.Attachment x.2 ∧ x.1.HeldLaw)
      (fun _ _ m h => ⟨h.1.move m, h.2.1.move m, h.2.2.move m h.1 h.2.1⟩) run
      ⟨State.capacityLaw_iff.1 capacity, State.attachmentLaw_iff.1 attachment, held⟩).2.2

end Sys2Proof.Machine
end

section
/-! The reference counts and the cell charges are kept (R69, R77). -/

namespace Sys2Proof.Machine

section
variable {s t : State} {g g' : Hand}

/-! ### What names a record -/

/-- Two sites with the same frames waiting and queued, under the same charge. -/
structure Site.SameFrames (τ σ : Site) : Prop where
  rxQueue : τ.host.rxQueue = σ.host.rxQueue
  holdList : τ.host.holdList = σ.host.holdList
  charge : τ.host.charge = σ.host.charge
  queue : τ.tx.queue = σ.tx.queue

theorem Site.SameFrames.positions {τ σ : Site} (same : τ.SameFrames σ) (r : Handle) :
    τ.positions r = σ.positions r := by
  rw [Site.positions, same.rxQueue, same.holdList, same.queue, Site.positions]

theorem State.sameFrames_of_same (hosts : t.hosts = s.hosts) (sides : t.arbiter.hosts = s.arbiter.hosts) (k : HostId) :
    (t.site k).SameFrames (s.site k) := by
  rw [State.site_congr hosts sides]
  exact ⟨rfl, rfl, rfl, rfl⟩

theorem State.sameFrames_ticked (s : State) (k : HostId) : ((ticked s).site k).SameFrames (s.site k) := by
  have host : (ticked s).host k = (s.host k).tick := State.host_ticked ..
  exact ⟨(congrArg HostCtx.rxQueue host :), (congrArg HostCtx.holdList host :), (congrArg HostCtx.charge host :), rfl⟩

theorem State.sameFrames_complete (s : State) (h k : HostId) (l : List Completion) :
    ((s.setTx h { s.tx h with ring := l }).site k).SameFrames (s.site k) := by
  rw [State.site_setTx]
  split
  · next e =>
    subst e
    exact ⟨rfl, rfl, rfl, rfl⟩
  · exact ⟨rfl, rfl, rfl, rfl⟩

theorem State.named_congr (frames : ∀ k, (t.site k).SameFrames (s.site k)) {r : Handle}
    (receives : t.receivesInto r = s.receivesInto r) (path : t.onPath r = s.onPath r) : t.named r = s.named r := by
  have positions : t.positions r = s.positions r := funext fun k => (frames k).positions r
  rw [State.named, positions, receives, path, State.named]

/-- A sum over the hosts in which one term changes. -/
theorem sum_hosts_change {f f' : HostId → Nat} {h : HostId} (same : ∀ k, k ≠ h → f' k = f k) :
    (HostId.all.map f').sum + f h = (HostId.all.map f).sum + f' h := by
  have all (p : HostId → Nat) : (HostId.all.map p).sum = p .h0 + p .h1 + p .h2 + p .h3 := by
    simp [HostId.all]
    omega
  rw [all, all]
  cases h <;> simp only [same, ne_eq, reduceCtorEq, not_false_eq_true] <;> omega

theorem State.named_setSite (s : State) (h : HostId) (τ : Site) (r : Handle) :
    (s.setSite h τ).named r + (s.site h).positions r = s.named r + τ.positions r := by
  have positions (k : HostId) : (s.setSite h τ).positions r k = if k = h then τ.positions r else s.positions r k := by
    have site : (s.setSite h τ).positions r k = ((s.setSite h τ).site k).positions r := rfl
    rw [site, State.site_setSite]
    split <;> rfl
  have changed := sum_hosts_change (f := s.positions r) (f' := (s.setSite h τ).positions r) (h := h) fun k hk =>
    (positions k).trans (if_neg hk)
  rw [positions h, if_pos rfl] at changed
  have receives : (s.setSite h τ).receivesInto r = s.receivesInto r := rfl
  have path : (s.setSite h τ).onPath r = s.onPath r := rfl
  have here : (s.site h).positions r = s.positions r h := rfl
  rw [State.named, State.named, receives, path, here]
  omega

theorem State.positions_le_named (s : State) (r : Handle) (h : HostId) : s.positions r h ≤ s.named r := by
  have le : s.positions r h ≤ (HostId.all.map (s.positions r)).sum :=
    List.single_le_sum (by simp) _ (List.mem_map_of_mem (HostId.mem_all h))
  rw [State.named]
  omega

/-! ### The reference counts -/

/-- `n` is the count of references that a record holds: none where it is free, and at least one where it is not. -/
def IsCount (o : Option Nat) (n : Nat) : Prop :=
  match o with
  | none => n = 0
  | some k => k = n ∧ 1 ≤ k

/-- The reference count of record `r`, when it is allocated. -/
def State.refs? (s : State) (r : Handle) : Option Nat := (s.record r).map FrameRecord.refs

/-- `State.ReferenceLaw`, with the references in hand. -/
def State.References (s : State) (g : Hand) : Prop := ∀ r, IsCount (s.refs? r) (s.named r + g.refs.count r)

theorem State.referenceLaw_iff : s.ReferenceLaw ↔ s.References .empty := by
  refine forall_congr' fun r => ?_
  unfold State.refs?
  cases hr : s.record r <;> exact Iff.rfl

theorem State.References.congr (law : s.References g) (refs : ∀ r, t.refs? r = s.refs? r)
    (total : ∀ r, t.named r + g'.refs.count r = s.named r + g.refs.count r) : t.References g' := by
  intro r
  rw [refs, total]
  exact law r

/-- One record's count changed. -/
theorem State.References.update (law : s.References g) {r : Handle}
    (self : IsCount (t.refs? r) (t.named r + g'.refs.count r))
    (refs : ∀ q, q ≠ r → t.refs? q = s.refs? q)
    (total : ∀ q, q ≠ r → t.named q + g'.refs.count q = s.named q + g.refs.count q) : t.References g' := by
  intro q
  by_cases e : q = r
  · exact e ▸ self
  · rw [refs q e, total q e]
    exact law q

/-- A record with a reference in hand is allocated. -/
theorem State.References.record_of_mem (law : s.References g) {r : Handle} (mem : r ∈ g.refs) :
    ∃ rec, s.record r = some rec ∧ rec.refs = s.named r + g.refs.count r := by
  have count := law r
  have held := List.count_pos_iff.2 mem
  unfold State.refs? at count
  cases hr : s.record r with
  | none =>
    rw [hr] at count
    have none : s.named r + g.refs.count r = 0 := count
    omega
  | some rec =>
    rw [hr] at count
    exact ⟨rec, rfl, count.1⟩

/-- Nothing names a free record. -/
theorem State.References.of_free (law : s.References g) {r : Handle} (free : s.record r = none) :
    s.named r = 0 ∧ g.refs.count r = 0 := by
  have count := law r
  rw [State.refs?, free] at count
  have none : s.named r + g.refs.count r = 0 := count
  omega

theorem State.refs?_setRecord (s : State) (r q : Handle) (rec : FrameRecord) :
    (s.setRecord r (some rec)).refs? q = if q = r then some rec.refs else s.refs? q := by
  rw [State.refs?, State.record_setRecord]
  split <;> rfl

theorem State.refs?_setRecord_same {r : Handle} {rec rec' : FrameRecord} (hr : s.record r = some rec)
    (same : rec'.refs = rec.refs) (q : Handle) : (s.setRecord r (some rec')).refs? q = s.refs? q := by
  rw [State.refs?_setRecord]
  split
  · next e => rw [e, State.refs?, hr, same]; rfl
  · rfl

theorem State.refs?_congr (pool : t.pool = s.pool) (r : Handle) : t.refs? r = s.refs? r := by
  rw [State.refs?, State.record_congr pool, State.refs?]

/-- The pool is no part of what names a record. -/
theorem State.named_withPool (s : State) (p : Pool) (r : Handle) : ({ s with pool := p } : State).named r = s.named r :=
  rfl

theorem State.named_dropRef (s : State) (r q : Handle) : (s.dropRef r).named q = s.named q := by
  rw [State.dropRef_eq]
  rfl

/-- A reference in hand is dropped. -/
theorem State.References.dropRef {r : Handle} {rs : List Handle} {o l o' l' : Option HostId}
    (law : s.References ⟨r :: rs, o, l⟩) : (s.dropRef r).References ⟨rs, o', l'⟩ := by
  obtain ⟨rec, hr, count⟩ := law.record_of_mem (List.mem_cons_self ..)
  rw [List.count_cons_self] at count
  have others (q : Handle) (hq : q ≠ r) :
      (s.dropRef r).named q + rs.count q = s.named q + (r :: rs).count q := by
    rw [State.named_dropRef, List.count_cons_of_ne hq.symm]
  refine law.update (r := r) ?_ (fun q hq => ?_) others
  · rw [State.named_dropRef]
    by_cases last : rec.refs ≤ 1
    · rw [State.dropRef_of_last hr last, State.refs?, State.record_freeRecord, if_pos rfl]
      show s.named r + rs.count r = 0
      omega
    · rw [State.dropRef_of_many hr (Nat.lt_of_not_le last), State.refs?_setRecord, if_pos rfl]
      show rec.refs - 1 = s.named r + rs.count r ∧ 1 ≤ rec.refs - 1
      omega
  · by_cases last : rec.refs ≤ 1
    · rw [State.dropRef_of_last hr last, State.refs?, State.record_freeRecord, if_neg hq, State.refs?]
    · rw [State.dropRef_of_many hr (Nat.lt_of_not_le last), State.refs?_setRecord, if_neg hq]

theorem State.refs?_storeByte {r : Handle} {rec : FrameRecord} (hr : s.record r = some rec) (k : Nat) (b : Byte)
    (q : Handle) : ({ s with pool := s.pool.storeByte r rec k b } : State).refs? q = s.refs? q := by
  unfold Pool.storeByte
  split
  · rfl
  split
  · exact State.refs?_setRecord_same (rec' := { rec with exhausted := some true, chain := [] }) hr rfl q
  · next c rest _ => exact State.refs?_setRecord_same (rec' := { rec with chain := rec.chain ++ [c] }) hr rfl q

theorem State.positions_handles (s : State) (h : HostId) (r : Handle) :
    (s.positionHandles h).count r = (s.site h).positions r := by
  simp only [State.positionHandles, List.count_append, count_map_handle]
  rfl

/-- Of the records the receiver can store into at most the one that it does. -/
theorem State.receivesInto_unique {r q : Handle} (hr : s.receivesInto r = true) (hq : s.receivesInto q = true) :
    q = r := by
  unfold State.receivesInto at hr hq
  cases hx : s.line.reception with
  | none => simp [hx] at hr
  | some x =>
    simp only [hx, Option.any_some, decide_eq_true_eq] at hr hq
    exact (ReceptionMode.storing.inj (hr.symm.trans hq)).symm

/-- The receiver silent, or turned away from every record. -/
theorem State.not_receives_of_quiet {y : Option Reception} (quiet : ∀ z ∈ y, z.mode = .ignoring) (r : Handle) :
    (s.setReception y).receivesInto r = false := by
  cases y with
  | none => rfl
  | some z => simp [State.receivesInto, State.setReception, quiet z rfl]

theorem State.receivesInto_begin (s : State) (r q : Handle) :
    (s.setReception (some (.begin (.storing r)))).receivesInto q = decide (q = r) := by
  simp [State.receivesInto, State.setReception, Reception.begin, eq_comm]

/-- What names a record, of its three kinds. -/
theorem State.named_eq (s : State) (r : Handle) :
    s.named r = (HostId.all.map (s.positions r)).sum + (if s.receivesInto r then 1 else 0) +
      (if s.onPath r then 1 else 0) := rfl

theorem State.onPath_setPath (s : State) (p : Option OnPath) (r : Handle) :
    (s.setPath p).onPath r = p.any (fun f => f.handle = r) := rfl

theorem State.named_setPath (s : State) (p : Option OnPath) (r : Handle) :
    (s.setPath p).named r + (if s.onPath r then 1 else 0) =
      s.named r + (if p.any (fun f => f.handle = r) then 1 else 0) := by
  rw [State.named_eq, State.named_eq, State.onPath_setPath]
  show (HostId.all.map (s.positions r)).sum + _ + _ + _ = _
  have receives : (s.setPath p).receivesInto r = s.receivesInto r := rfl
  rw [receives]
  omega

theorem State.named_setReception (s : State) (y : Option Reception) (r : Handle) :
    (s.setReception y).named r + (if s.receivesInto r then 1 else 0) =
      s.named r + (if (s.setReception y).receivesInto r then 1 else 0) := by
  rw [State.named_eq, State.named_eq]
  show (HostId.all.map (s.positions r)).sum + _ + (if s.onPath r then 1 else 0) + _ = _
  omega

/-- The frame that leaves the path has its reference in hand. -/
theorem State.References.unsend (law : s.References g) {f : OnPath} (busy : s.arbiter.path = some f) :
    (s.setPath none).References { g with refs := f.handle :: g.refs } := by
  refine law.congr (fun r => rfl) fun r => ?_
  have named := s.named_setPath none r
  have path : s.onPath r = decide (f.handle = r) := by rw [State.onPath, busy, Option.any_some]
  rw [path] at named
  simp only [decide_eq_true_eq, Option.any_none, Bool.false_eq_true, if_false] at named
  rw [List.count_cons, beq_eq_decide]
  simp only [decide_eq_true_eq]
  omega

/-- A record just taken, with its first reference. -/
theorem State.References.taken (law : s.References g) (pool : s.PoolLaw) {r : Handle} {rest : List Handle}
    (free : s.pool.freeRecords = r :: rest) {rec : FrameRecord} (one : rec.refs = 1)
    (record : ∀ q, t.record q = if q = r then some rec else s.record q)
    (total : ∀ q, t.named q + g'.refs.count q = s.named q + g.refs.count q + if q = r then 1 else 0) :
    t.References g' := by
  obtain ⟨none, -⟩ := pool.head_free free
  obtain ⟨named, hand⟩ := law.of_free none
  refine law.update (r := r) ?_ (fun q hq => ?_) fun q hq => ?_
  · rw [total, named, hand, State.refs?, record, if_pos rfl, if_pos rfl]
    exact ⟨one, one.ge⟩
  · rw [State.refs?, record, if_neg hq, State.refs?]
  · rw [total, if_neg hq, Nat.add_zero]

end

theorem State.References.move {x y : State × Hand} (m : State.Move x y) (pool : x.1.PoolLaw)
    (law : x.1.References x.2) :
    y.1.References y.2 := by
  cases m with
  | @idle s t g alike =>
    refine law.congr (fun r => State.refs?_congr alike.pool r) fun r => ?_
    have path : t.onPath r = s.onPath r := by rw [State.onPath, alike.path, State.onPath]
    rw [State.named_congr (State.sameFrames_of_same alike.hosts alike.sides) (alike.receives r) path]
  | @reset s t cleared =>
    refine (State.referenceLaw_iff.1 referenceLaw_reset).congr (fun r => State.refs?_congr cleared.pool r) fun r => ?_
    have path : t.onPath r = State.reset.onPath r := by rw [State.onPath, cleared.arbiter, State.onPath]
    have receives : t.receivesInto r = State.reset.receivesInto r := by
      rw [State.receivesInto, cleared.reception]
      rfl
    rw [State.named_congr (State.sameFrames_of_same cleared.hosts
        (congrArg Arbiter.hosts cleared.arbiter)) receives path]
  | @site s g h τ m next =>
    refine law.congr (fun r => rfl) fun r => ?_
    have named := s.named_setSite h τ r
    have refs := next.refs r
    show (s.setSite h τ).named r + m.count r = s.named r + g.refs.count r
    omega
  | @discard s g h =>
    refine law.congr (fun r => rfl) fun r => ?_
    have path : (s.discardOf h).onPath r = s.onPath r := by
      rw [State.discardOf, State.onPath_setPath, State.onPath]
      cases s.arbiter.path with
      | none => rfl
      | some f => simp only [Option.map_some, Option.any_some]; split <;> rfl
    show (s.discardOf h).named r + _ = s.named r + _
    rw [State.named_congr (s := s) (t := s.discardOf h) (State.sameFrames_of_same rfl rfl) rfl path]
  | @detach s g h =>
    refine law.congr (fun r => rfl) fun r => ?_
    have named := s.named_setSite h (s.host h).left r
    have none : (s.host h).left.positions r = 0 := rfl
    dsimp only
    rw [List.count_append, s.positions_handles]
    omega
  | leave | owe | entry | accord => exact law
  | @take s g r mem =>
    obtain ⟨rec, hr, count⟩ := law.record_of_mem mem
    have taken : s.takeRef r = s.setRecord r (some { rec with refs := rec.refs + 1 }) := State.takeRef_of_record hr
    show (s.takeRef r).References _
    rw [taken]
    refine law.update (r := r) ?_ (fun q hq => by rw [State.refs?_setRecord, if_neg hq]) fun q hq => ?_
    · rw [State.refs?_setRecord, if_pos rfl, List.count_cons_self]
      show rec.refs + 1 = s.named r + (g.refs.count r + 1) ∧ 1 ≤ rec.refs + 1
      dsimp only at count
      omega
    · rw [List.count_cons_of_ne hq.symm]
      rfl
  | drop => exact State.References.dropRef law
  | record hr chain refs => exact law.congr (State.refs?_setRecord_same hr refs) fun r => rfl
  | @receive s g r rest free silent =>
    refine law.taken pool free (rec := s.receivingRecord) rfl (fun q => State.record_setRecord s r q _) fun q => ?_
    have named := State.named_setReception (s.takeRecord r rest s.receivingRecord) (some (.begin (.storing r))) q
    have before : (s.takeRecord r rest s.receivingRecord).receivesInto q = false := by
      simp [State.receivesInto, State.takeRecord, silent]
    rw [State.receivesInto_begin, before] at named
    simp only [decide_eq_true_eq, Bool.false_eq_true, if_false] at named
    have same : (s.takeRecord r rest s.receivingRecord).named q = s.named q := rfl
    dsimp only
    omega
  | store receiving hr => exact law.congr (State.refs?_storeByte hr _ _) fun r => rfl
  | @stop s g r y receiving quiet =>
    refine law.congr (fun q => rfl) fun q => ?_
    have named := s.named_setReception y q
    rw [State.not_receives_of_quiet quiet] at named
    simp only [Bool.false_eq_true, if_false] at named
    rw [List.count_cons, beq_eq_decide]
    by_cases e : r = q
    · subst e
      simp only [receiving, if_true, decide_true] at named ⊢
      omega
    · have other : s.receivesInto q = false :=
        Bool.eq_false_iff.2 fun hq => e (State.receivesInto_unique receiving hq).symm
      simp only [other, e, Bool.false_eq_true, if_false, decide_false] at named ⊢
      omega
  | @submit s g h r rest frame free =>
    refine law.taken pool free rfl (fun q => State.record_setRecord s r q _) fun q => ?_
    have same : (s.storeFrame h r rest frame).named q = s.named q := rfl
    rw [same, List.count_cons, beq_eq_decide]
    simp only [decide_eq_true_eq, eq_comm (a := r)]
    omega
  | @complete s g h c =>
    refine law.congr (fun r => rfl) fun r => ?_
    rw [State.named_congr (s.sameFrames_complete h · _) rfl rfl]
  | @send s f rs l idle =>
    refine law.congr (fun r => rfl) fun r => ?_
    have named := s.named_setPath (some f) r
    have before : s.onPath r = false := by rw [State.onPath, idle]; rfl
    rw [before, Option.any_some] at named
    simp only [decide_eq_true_eq, Bool.false_eq_true, if_false] at named
    rw [List.count_cons, beq_eq_decide]
    simp only [decide_eq_true_eq]
    omega
  | unsend busy => exact State.References.dropRef (law.unsend busy)
  | @tick s g =>
    refine law.congr (fun r => rfl) fun r => ?_
    rw [State.named_congr s.sameFrames_ticked rfl rfl]

/-- Settles O55: each move keeps the pool law and the counts with the references in hand. -/
theorem stepKeepsTheReferenceLaw : Obligations.StepKeepsTheReferenceLaw := by
  unfold Obligations.StepKeepsTheReferenceLaw
  intro s t pool law run
  exact State.referenceLaw_iff.2 (keeps_of_step (P := fun x => x.1.PoolLaw ∧ x.1.References x.2)
    (fun _ _ m h => ⟨h.1.move m, h.2.move m h.1⟩) run ⟨pool, State.referenceLaw_iff.1 law⟩).2

end Sys2Proof.Machine
end

section
/-! The cell charges are kept (R77). -/

namespace Sys2Proof.Machine

section
variable {s t : State} {g g' : Hand}

/-- `State.ChargeLaw`, the references in hand being none of a reception. -/
structure State.Charged (s : State) (g : Hand) : Prop where
  charge : ∀ k, (s.host k).charge = (s.site k).waiting s.cellCount
  received : ∀ r k, s.receivesInto r = true → (s.site k).positions r = 0
  hand : ∀ r ∈ g.refs, s.receivesInto r = false

theorem State.chargeLaw_iff : s.ChargeLaw ↔ s.Charged .empty :=
  ⟨fun law => ⟨law.charge, law.received, nofun⟩, fun c => ⟨c.charge, c.received⟩⟩

/-- The cells of frames that do not wait at a site are no part of what waits there. -/
theorem Site.waiting_congr {σ : Site} {cells cells' : Handle → Nat}
    (same : ∀ r, σ.positions r ≠ 0 → cells' r = cells r) : σ.waiting cells' = σ.waiting cells := by
  have rx : ∀ p ∈ σ.host.rxQueue, cells' p.handle = cells p.handle := fun p hp => same _ fun none => by
    have pos : 0 < σ.host.rxQueue.countP (fun q => q.handle = p.handle) :=
      List.countP_pos_iff.2 ⟨p, hp, decide_eq_true rfl⟩
    rw [Site.positions] at none
    omega
  have hold : ∀ p ∈ σ.host.holdList, cells' p.handle = cells p.handle := fun p hp => same _ fun none => by
    have pos : 0 < σ.host.holdList.countP (fun q => q.handle = p.handle) :=
      List.countP_pos_iff.2 ⟨p, hp, decide_eq_true rfl⟩
    rw [Site.positions] at none
    omega
  rw [Site.waiting, List.map_congr_left rx, List.map_congr_left hold, Site.waiting]

/-- The same frames wait at every host, and those that wait have the same cells. -/
theorem State.Charged.congr (law : s.Charged g) (frames : ∀ k, (t.site k).SameFrames (s.site k))
    (cells : ∀ r, (∃ k, (s.site k).positions r ≠ 0) → t.cellCount r = s.cellCount r)
    (receives : ∀ r, t.receivesInto r = true → s.receivesInto r = true ∨ ∀ k, (s.site k).positions r = 0)
    (hand : ∀ r ∈ g'.refs, t.receivesInto r = false) : t.Charged g' := by
  refine ⟨fun k => ?_, fun r k hr => ?_, hand⟩
  · have old := law.charge k
    have waiting : (t.site k).waiting t.cellCount = (s.site k).waiting t.cellCount := by
      rw [Site.waiting, (frames k).rxQueue, (frames k).holdList, Site.waiting]
    have charge : (t.host k).charge = (s.host k).charge := (frames k).charge
    rw [charge, old, waiting]
    exact (Site.waiting_congr fun r hr => cells r ⟨k, hr⟩).symm
  · rw [(frames k).positions]
    exact (receives r hr).elim (law.received r k) fun none => none k

/-- Where the receiver takes no new record, the hand stays clear of it. -/
theorem State.Charged.hand_of_subset (law : s.Charged g) (sub : ∀ r ∈ g'.refs, r ∈ g.refs)
    (receives : ∀ r, t.receivesInto r = s.receivesInto r) : ∀ r ∈ g'.refs, t.receivesInto r = false :=
  fun r hr => (receives r).trans (law.hand r (sub r hr))

theorem State.cellCount_congr (pool : t.pool = s.pool) (r : Handle) : t.cellCount r = s.cellCount r := by
  rw [State.cellCount_eq, State.cellCount_eq, State.record_congr pool]

theorem State.cellCount_setRecord {r : Handle} {rec rec' : FrameRecord} (hr : s.record r = some rec)
    (chain : rec'.chain = rec.chain) (q : Handle) : (s.setRecord r (some rec')).cellCount q = s.cellCount q := by
  rw [State.cellCount_eq, State.chainOf_setRecord hr chain, State.cellCount_eq]

/-- A site that names a record makes it a named one. -/
theorem State.named_ne_zero {r : Handle} {k : HostId} (some : (s.site k).positions r ≠ 0) : s.named r ≠ 0 := by
  have le : (s.site k).positions r ≤ s.named r := s.positions_le_named r k
  omega

theorem State.named_of_receives {r : Handle} (receives : s.receivesInto r = true) : s.named r ≠ 0 := by
  rw [State.named_eq, if_pos receives]
  omega

/-- A reference dropped leaves the cells of every frame that waits. -/
theorem State.cellCount_dropRef {r : Handle} {rs : List Handle} {o l : Option HostId}
    (refs : s.References ⟨r :: rs, o, l⟩) {q : Handle} (named : s.named q ≠ 0) :
    (s.dropRef r).cellCount q = s.cellCount q := by
  obtain ⟨rec, hr, count⟩ := refs.record_of_mem (List.mem_cons_self ..)
  rw [List.count_cons_self] at count
  by_cases last : rec.refs ≤ 1
  · have other : q ≠ r := by
      rintro rfl
      omega
    rw [State.dropRef_of_last hr last, State.cellCount_eq, State.record_freeRecord, if_neg other, State.cellCount_eq]
  · rw [State.dropRef_of_many hr (Nat.lt_of_not_le last)]
    exact State.cellCount_setRecord (rec' := { rec with refs := rec.refs - 1 }) hr rfl q

theorem State.Charged.dropRef {r : Handle} {rs : List Handle} {o l o' l' : Option HostId}
    (law : s.Charged ⟨rs, o, l⟩) (refs : s.References ⟨r :: rs, o, l⟩) :
    (s.dropRef r).Charged ⟨rs, o', l'⟩ := by
  have receives (q : Handle) : (s.dropRef r).receivesInto q = s.receivesInto q := by
    rw [State.dropRef_eq]
    rfl
  have frames (k : HostId) : ((s.dropRef r).site k).SameFrames (s.site k) := by
    rw [State.dropRef_eq]
    exact State.sameFrames_of_same rfl rfl k
  exact law.congr frames (fun q ⟨_, hq⟩ => State.cellCount_dropRef refs (State.named_ne_zero hq))
    (fun q hq => .inl (receives q ▸ hq)) fun q hq => (receives q).trans (law.hand q hq)

/-- A stored byte changes no other record. -/
theorem State.record_storeByte_of_ne {r q : Handle} (other : q ≠ r) (rec : FrameRecord) (k : Nat) (b : Byte) :
    ({ s with pool := s.pool.storeByte r rec k b } : State).record q = s.record q := by
  unfold Pool.storeByte
  split
  · rfl
  split <;> exact (State.record_setRecord s r q _).trans (if_neg other)

/-- A record just taken has no position and no reference in hand. -/
theorem State.References.unnamed_of_free (refs : s.References g) (pool : s.PoolLaw) {r : Handle} {rest : List Handle}
    (free : s.pool.freeRecords = r :: rest) :
    (∀ k, (s.site k).positions r = 0) ∧ r ∉ g.refs ∧ s.receivesInto r = false := by
  obtain ⟨named, hand⟩ := refs.of_free (pool.head_free free).1
  refine ⟨fun k => ?_, List.count_eq_zero.1 hand, ?_⟩
  · by_contra some
    exact State.named_ne_zero some named
  · by_contra receives
    exact State.named_of_receives (Bool.not_eq_false _ ▸ receives) named

end

theorem State.Charged.move {x y : State × Hand} (m : State.Move x y) (pool : x.1.PoolLaw) (refs : x.1.References x.2)
    (law : x.1.Charged x.2) : y.1.Charged y.2 := by
  cases m with
  | @idle s t g alike =>
    exact law.congr (State.sameFrames_of_same alike.hosts alike.sides) (fun r _ => State.cellCount_congr alike.pool r)
      (fun r hr => .inl (alike.receives r ▸ hr)) (law.hand_of_subset (fun _ => id) alike.receives)
  | @reset s t cleared =>
    have silent (r : Handle) : t.receivesInto r = false := by
      rw [State.receivesInto, cleared.reception]
      rfl
    refine (State.chargeLaw_iff.1 chargeLaw_reset).congr
      (State.sameFrames_of_same cleared.hosts (congrArg Arbiter.hosts cleared.arbiter))
      (fun r _ => State.cellCount_congr cleared.pool r) (fun r hr => ?_) nofun
    exact nomatch (silent r).symm.trans hr
  | @site s g h τ m next =>
    -- what a site names, it named already, or it was in hand
    have from' {r : Handle} (receives : s.receivesInto r = true) : τ.positions r = 0 ∧ m.count r = 0 := by
      have total := next.refs r
      have old := law.received r h receives
      have hand : g.refs.count r = 0 :=
        List.count_eq_zero.2 fun mem => nomatch (law.hand r mem).symm.trans receives
      dsimp only at old
      omega
    have site (k : HostId) := s.site_setSite h k τ
    refine ⟨fun k => ?_, fun r k receives => ?_, fun r hr => ?_⟩
    · show ((s.setSite h τ).site k).host.charge = ((s.setSite h τ).site k).waiting s.cellCount
      rw [site]
      split
      · exact next.charge (law.charge h)
      · exact law.charge k
    · show ((s.setSite h τ).site k).positions r = 0
      rw [site]
      split
      · exact (from' receives).1
      · exact law.received r k receives
    · refine Bool.eq_false_iff.2 fun receives => ?_
      exact List.count_eq_zero.1 (from' (r := r) receives).2 hr
  | @detach s g h =>
    have site (k : HostId) := s.site_setSite h k (s.host h).left
    refine ⟨fun k => ?_, fun r k receives => ?_, fun r hr => ?_⟩
    · show ((s.setSite h (s.host h).left).site k).host.charge =
        ((s.setSite h (s.host h).left).site k).waiting s.cellCount
      rw [site]
      split
      · rfl
      · exact law.charge k
    · show ((s.setSite h (s.host h).left).site k).positions r = 0
      rw [site]
      split
      · rfl
      · exact law.received r k receives
    · refine Bool.eq_false_iff.2 fun receives => ?_
      obtain mem | mem := List.mem_append.1 hr
      · have pos := List.count_pos_iff.2 mem
        have none := law.received r h receives
        rw [s.positions_handles] at pos
        dsimp only at none
        omega
      · exact nomatch (law.hand r mem).symm.trans receives
  | discard | leave | owe | entry | accord => exact ⟨law.charge, law.received, law.hand⟩
  | @take s g r mem =>
    have hosts : (s.takeRef r).hosts = s.hosts := State.takeRef_hosts ..
    have sides : (s.takeRef r).arbiter = s.arbiter := State.takeRef_arbiter ..
    have receives (q : Handle) : (s.takeRef r).receivesInto q = s.receivesInto q := by
      rw [State.receivesInto, State.takeRef_line, State.receivesInto]
    refine law.congr (State.sameFrames_of_same hosts (congrArg _ sides)) (fun q _ => s.takeRef_cellCount r q)
      (fun q hq => .inl (receives q ▸ hq)) (law.hand_of_subset (fun q hq => ?_) receives)
    obtain rfl | hq := List.mem_cons.1 hq
    · exact mem
    · exact hq
  | @drop s r rs o l =>
    have rest : s.Charged ⟨rs, o, l⟩ := ⟨law.charge, law.received, fun q hq => law.hand q (List.mem_cons_of_mem r hq)⟩
    exact rest.dropRef refs
  | record hr chain =>
    exact law.congr (State.sameFrames_of_same rfl rfl) (fun q _ => State.cellCount_setRecord hr chain q) (fun _ => .inl)
      law.hand
  | @receive s g r rest free silent =>
    obtain ⟨unnamed, absent, -⟩ := State.References.unnamed_of_free refs pool free
    refine law.congr (State.sameFrames_of_same rfl rfl) (fun q ⟨k, hq⟩ => ?_) (fun q hq => ?_) fun q hq => ?_
    · have other : q ≠ r := fun e => hq (e ▸ unnamed k)
      rw [State.cellCount_eq, State.cellCount_eq]
      exact congrArg (fun o => (chainOf o).length) ((State.record_setRecord s r q _).trans (if_neg other))
    · rw [State.receivesInto_begin] at hq
      exact .inr (of_decide_eq_true hq ▸ unnamed)
    · rw [State.receivesInto_begin]
      exact decide_eq_false fun e => absent (e ▸ hq)
  | @store s g r rec k b receiving hr =>
    refine law.congr (State.sameFrames_of_same rfl rfl) (fun q ⟨k', hq⟩ => ?_) (fun _ => .inl) law.hand
    have other : q ≠ r := fun e => hq (e ▸ law.received r k' receiving)
    rw [State.cellCount_eq, State.cellCount_eq]
    exact congrArg (fun o => (chainOf o).length) (State.record_storeByte_of_ne other rec k b)
  | @stop s g r y receiving quiet =>
    refine law.congr (State.sameFrames_of_same rfl rfl) (fun _ _ => rfl) (fun q hq => ?_) fun q _ =>
      State.not_receives_of_quiet quiet q
    exact nomatch (State.not_receives_of_quiet quiet q).symm.trans hq
  | @submit s g h r rest frame free =>
    obtain ⟨unnamed, -, silent⟩ := State.References.unnamed_of_free refs pool free
    refine law.congr (State.sameFrames_of_same rfl rfl) (fun q ⟨k, hq⟩ => ?_) (fun _ => .inl) fun q hq => ?_
    · have other : q ≠ r := fun e => hq (e ▸ unnamed k)
      rw [State.cellCount_eq, State.cellCount_eq]
      exact congrArg (fun o => (chainOf o).length) ((State.record_setRecord s r q _).trans (if_neg other))
    · obtain rfl | hq := List.mem_cons.1 hq
      · exact silent
      · exact law.hand q hq
  | @complete s g h c => exact law.congr (s.sameFrames_complete h · _) (fun _ _ => rfl) (fun _ => .inl) law.hand
  | send => exact ⟨law.charge, law.received, fun q hq => law.hand q (List.mem_cons_of_mem _ hq)⟩
  | @unsend s g f busy =>
    have idle : (s.setPath none).Charged g := ⟨law.charge, law.received, law.hand⟩
    exact idle.dropRef (refs.unsend busy)
  | @tick s g => exact law.congr s.sameFrames_ticked (fun _ _ => rfl) (fun _ => .inl) law.hand

/-- Settles O56: each move keeps the charges, in a state with the pool law and the counts. -/
theorem stepKeepsTheChargeLaw : Obligations.StepKeepsTheChargeLaw := by
  unfold Obligations.StepKeepsTheChargeLaw
  intro s t pool refs law run
  exact State.chargeLaw_iff.2 (keeps_of_step (P := fun x => x.1.PoolLaw ∧ x.1.References x.2 ∧ x.1.Charged x.2)
    (fun _ _ m h => ⟨h.1.move m, h.2.1.move m h.1, h.2.2.move m h.1 h.2.1⟩) run
    ⟨pool, State.referenceLaw_iff.1 refs, State.chargeLaw_iff.1 law⟩).2.2

end Sys2Proof.Machine
end

section
/-! The phase of a port is kept in step with its buffers (R171, R177, R181). -/

namespace Sys2Proof.Machine

/-- What `State.PortLaw` says of one port, a device reset lasting or not. -/
structure Port.Lawful (p : Port) (resetting : Bool) : Prop where
  idle : p.phase = .idle → p.request = [] ∧ p.response = []
  request : p.phase = .request → requestEnd p.request = none ∧ p.response = []
  held : p.held = true → p.phase = .idle
  resetting : resetting = true → p.phase = .idle

section
variable {s t : State} {h : HostId}

theorem State.portLaw_iff : s.PortLaw ↔ ∀ k, (s.port k).Lawful s.resetting.isSome :=
  ⟨fun law k => ⟨law.idle k, law.request k, law.held k, fun r => law.resetting (Option.isSome_iff_ne_none.1 r) k⟩,
    fun each => ⟨fun k => (each k).idle, fun k => (each k).request, fun k => (each k).held,
      fun r k => (each k).resetting (Option.isSome_iff_ne_none.2 r)⟩⟩

/-- A port in IDLE with its buffers empty is lawful at any time. -/
theorem Port.lawful_of_idle {p : Port} (idle : p.phase = .idle) (request : p.request = []) (response : p.response = [])
    (r : Bool) : p.Lawful r :=
  ⟨fun _ => ⟨request, response⟩, fun busy => (nomatch idle.symm.trans busy), fun _ => idle, fun _ => idle⟩

/-- The ports as they are, but for what they show. -/
theorem State.PortLaw.congr (law : s.PortLaw) (resetting : t.resetting = s.resetting)
    (port : ∀ k, (t.port k).phase = (s.port k).phase ∧ (t.port k).request = (s.port k).request ∧
      (t.port k).response = (s.port k).response ∧ (t.port k).held = (s.port k).held) : t.PortLaw := by
  rw [State.portLaw_iff] at law ⊢
  intro k
  obtain ⟨phase, request, response, held⟩ := port k
  obtain ⟨idle, requests, holds, resets⟩ := law k
  constructor <;> rw [phase] <;> simpa only [request, response, held, resetting]

theorem State.PortLaw.same (law : s.PortLaw) (ports : t.ports = s.ports) (resetting : t.resetting = s.resetting) :
    t.PortLaw :=
  law.congr resetting fun k => by rw [State.port, ports]; exact ⟨rfl, rfl, rfl, rfl⟩

/-- One port replaced. -/
theorem State.PortLaw.setPort (law : s.PortLaw) {p : Port} (lawful : p.Lawful s.resetting.isSome) :
    (s.setPort h p).PortLaw := by
  rw [State.portLaw_iff] at law ⊢
  intro k
  rw [State.port_setPort]
  split
  · exact lawful
  · exact law k

/-! ### The port lines -/

theorem Port.lawful_abort (p : Port) (r : Bool) : p.abort.Lawful r := Port.lawful_of_idle rfl rfl rfl r

theorem State.PortLaw.beginTransaction (law : s.PortLaw) : (s.beginTransaction h).PortLaw := by
  simp only [State.beginTransaction]
  split
  · exact law
  next deaf =>
  simp only [Bool.or_eq_true, not_or, Bool.not_eq_true] at deaf
  obtain ⟨runs, released⟩ := deaf
  split
  · refine law.setPort ⟨nofun, fun _ => ⟨rfl, rfl⟩, fun held => ?_, fun resets => ?_⟩
    · exact nomatch released.symm.trans held
    · exact nomatch runs.symm.trans resets
  · exact law
  · exact law

theorem State.PortLaw.endTransaction (law : s.PortLaw) : (s.endTransaction h).PortLaw := by
  unfold State.endTransaction
  split
  · exact law
  · exact law.setPort ((s.port h).lawful_abort _)

/-- The detach clean-up writes the last detach cause of a port and no more of it. -/
theorem State.cleanUp_port (cause : DetachCause) (k : HostId) :
    (s.cleanUp h cause).port k = { s.port k with lastDetach := ((s.cleanUp h cause).port k).lastDetach } := by
  by_cases own : k = h
  · rw [own, State.port_cleanUp]
  · have other : (s.cleanUp h cause).port k = s.port k := by
      simp [State.cleanUp, State.setDetachCause, State.port_setPort, own]
      simp [State.port]
    rw [other]

theorem State.PortLaw.cleanUp (law : s.PortLaw) (cause : DetachCause) : (s.cleanUp h cause).PortLaw := by
  refine law.congr (State.cleanUp_resetting ..) fun k => ?_
  rw [State.cleanUp_port cause k]
  exact ⟨rfl, rfl, rfl, rfl⟩

theorem State.PortLaw.portResetAsserted (law : s.PortLaw) : (portResetAsserted h s).PortLaw := by
  have aborted : (s.setPort h { (s.port h).abort with held := true }).PortLaw :=
    law.setPort (Port.lawful_of_idle rfl rfl rfl _)
  simp only [Machine.portResetAsserted]
  split
  · exact aborted.cleanUp _
  · exact aborted

/-- The level of the port reset input, which aborts nothing: it is asserted so while a device reset lasts, when no
transaction goes on, and is released so with none going on. -/
theorem State.PortLaw.setHeld (law : s.PortLaw) {b : Bool} (idle : b = true → s.resetting.isSome = true) :
    (s.setHeld h b).PortLaw := by
  have old := State.portLaw_iff.1 law h
  exact law.setPort ⟨old.idle, old.request, fun held => old.resetting (idle held), old.resetting⟩

/-! ### Requests -/

/-- No command begins or ends a device reset. -/
theorem serve_resetting (c : Command) (p : List Byte) : (serve h c p s).1.resetting = s.resetting := by
  cases c
  case detach => exact State.cleanUp_resetting ..
  all_goals simp only [serve, attachRequest, identifyRequest, readNoticesRequest, setNoticeMaskRequest,
    readCountersRequest, clearCountersRequest, readTickRequest, stageRequest, bindRequest, yieldRequest,
    setActionRequest, joinRequest, leaveRequest, offerRequest, acceptRequest, refuseRequest, retractRequest,
    renewRequest, lookupRequest, listHeldRequest, poolStatusRequest, lineStatusRequest, readFrameRequest,
    ackFrameRequest, queueStatusRequest, dozeRequest, sleepRequest, resumeRequest, readWakeRequest,
    setHostParamsRequest, submitRequest, readCompletionsRequest, readConfigRequest, proposeRequest, endorseRequest,
    declineRequest, withdrawRequest, refused, accepted, State.acceptFrame, State.refuseFrame]
  all_goals repeat' split
  all_goals simp

theorem State.answer_resetting (req : List Byte) : (s.answer h req).1.resetting = s.resetting := by
  unfold State.answer
  split
  · rfl
  · exact serve_resetting ..

theorem State.PortLaw.answer (law : s.PortLaw) (req : List Byte) : (s.answer h req).1.PortLaw := by
  unfold State.answer
  split
  · exact law
  · refine law.congr (serve_resetting ..) fun k => ?_
    rw [serve_port]
    exact ⟨rfl, rfl, rfl, rfl⟩

/-- A request taken leaves its port in RESPONSE, listening. -/
theorem State.PortLaw.takeRequest (law : s.PortLaw) (runs : s.resetting.isSome = false)
    (released : (s.port h).held = false) (req : List Byte) (trailing : Nat) :
    (s.takeRequest h req trailing).PortLaw := by
  have still : ((s.answer h req).1.port h).held = false := (congrArg Port.held (s.answer_port h req)).trans released
  refine (law.answer req).setPort ⟨nofun, nofun, fun held => ?_, fun resets => ?_⟩
  · exact nomatch still.symm.trans held
  · rw [State.answer_resetting, runs] at resets
    exact nomatch resets

theorem State.PortLaw.shiftIn (law : s.PortLaw) (bytes : List Byte) : (s.shiftIn h bytes).PortLaw := by
  have old := State.portLaw_iff.1 law h
  simp only [State.shiftIn]
  split
  · exact law
  next deaf =>
  simp only [Bool.or_eq_true, not_or, Bool.not_eq_true] at deaf
  obtain ⟨runs, released⟩ := deaf
  split
  · exact law
  · next phase =>
    exact law.setPort ⟨fun i => (nomatch phase.symm.trans i), fun r => (nomatch phase.symm.trans r), old.held,
        old.resetting⟩
  · next phase =>
    split
    · next unfinished =>
      exact law.setPort ⟨fun i => (nomatch phase.symm.trans i), fun _ => ⟨unfinished, (old.request phase).2⟩, old.held,
        old.resetting⟩
    · exact law.takeRequest runs released ..

/-! ### Events of the part -/

/-- No port is other than it was, and no device reset began or ended. -/
def State.PortsAs (s t : State) : Prop := t.ports = s.ports ∧ t.resetting = s.resetting

theorem State.PortLaw.portsAs (law : s.PortLaw) (as : s.PortsAs t) : t.PortLaw := law.same as.1 as.2

theorem State.PortsAs.trans {u : State} (first : s.PortsAs t) (second : t.PortsAs u) : s.PortsAs u :=
  ⟨second.1.trans first.1, second.2.trans first.2⟩

section expiries
variable (j : Index) (k : HostId)

theorem portsAs_probeWindowExpired : s.PortsAs (probeWindowExpired j s) := by
  unfold probeWindowExpired
  repeat' split
  all_goals simp [State.PortsAs]

theorem portsAs_stageHoldExpired : s.PortsAs (stageHoldExpired j s) := by
  unfold stageHoldExpired
  repeat' split
  all_goals simp [State.PortsAs]

theorem portsAs_offerExpired : s.PortsAs (offerExpired j s) := by
  unfold offerExpired
  repeat' split
  all_goals simp [State.PortsAs]

theorem portsAs_leaseRanOut : s.PortsAs (leaseRanOut j s) := by
  simp only [leaseRanOut]
  repeat' split
  all_goals simp [State.PortsAs]

theorem portsAs_graceExpired : s.PortsAs (graceExpired j s) := by
  unfold graceExpired
  repeat' split
  all_goals simp [State.PortsAs]

theorem portsAs_dozeDelayExpired : s.PortsAs (dozeDelayExpired k s) := by
  simp only [dozeDelayExpired]
  repeat' split
  all_goals simp [State.PortsAs]

theorem portsAs_alarmExpired : s.PortsAs (alarmExpired k s) := by
  simp only [alarmExpired]
  repeat' split
  all_goals simp [State.PortsAs]

theorem portsAs_attemptExpired : s.PortsAs (attemptExpired k s) := by
  simp only [attemptExpired, State.strand]
  repeat' split
  all_goals simp [State.PortsAs]

theorem portsAs_restExpired : s.PortsAs (restExpired k s) := by
  simp only [restExpired]
  repeat' split
  all_goals simp [State.PortsAs]

theorem portsAs_accordWindowExpired : s.PortsAs (accordWindowExpired s) := by
  simp only [accordWindowExpired]
  repeat' split
  all_goals simp [State.PortsAs]

end expiries

theorem portsAs_endReception (x : Reception) (o : RxOutcome) : s.PortsAs (s.endReception x o) := by
  simp only [State.endReception]
  split <;> simp [State.PortsAs]

theorem portsAs_wireFrameEnded : s.PortsAs (wireFrameEnded s) := by
  unfold wireFrameEnded
  split
  · exact ⟨rfl, rfl⟩
  · exact portsAs_endReception ..

theorem portsAs_lineWentUp : s.PortsAs (lineWentUp s) := by
  simp only [lineWentUp]
  split <;> simp [State.PortsAs]

theorem portsAs_loseReception : s.PortsAs s.loseReception := by
  unfold State.loseReception
  split
  · exact portsAs_endReception ..
  · exact ⟨rfl, rfl⟩

theorem portsAs_loseTransmission : s.PortsAs s.loseTransmission := by
  unfold State.loseTransmission
  split <;> simp [State.PortsAs]

theorem portsAs_lineWentDown : s.PortsAs (lineWentDown s) := by
  simp only [lineWentDown]
  split
  · have falls : s.PortsAs s.lineFalls := ⟨rfl, rfl⟩
    exact ((falls.trans portsAs_loseReception).trans portsAs_loseTransmission).trans (by simp [State.PortsAs])
  · exact ⟨rfl, rfl⟩

theorem portsAs_frameStarted : s.PortsAs (frameStarted s) := by
  simp only [frameStarted, State.takeRecord]
  repeat' split
  all_goals simp [State.PortsAs]

theorem portsAs_storeReceived (m : ReceptionMode) (k : Nat) (b : Byte) : s.PortsAs (s.storeReceived m k b) := by
  unfold State.storeReceived
  repeat' split
  all_goals exact ⟨rfl, rfl⟩

theorem portsAs_byteReceived (b : Byte) : s.PortsAs (byteReceived b s) := by
  unfold byteReceived
  repeat' split
  · exact ⟨rfl, rfl⟩
  · exact ⟨rfl, rfl⟩
  · exact (portsAs_storeReceived ..).trans ⟨rfl, rfl⟩

theorem portsAs_cellNeedMet (b : Byte) : s.PortsAs (cellNeedMet b s) := by
  unfold cellNeedMet
  split
  · exact portsAs_byteReceived b
  · exact ⟨rfl, rfl⟩

theorem portsAs_errorMarked : s.PortsAs (errorMarked s) := by
  unfold errorMarked
  split <;> exact ⟨rfl, rfl⟩

theorem portsAs_switchLocally (r : Handle) (x : Route) : s.PortsAs (s.switchLocally r x).1 := by
  simp only [State.switchLocally]
  split <;> simp [State.PortsAs]

theorem portsAs_giveToLine (f : OnPath) (l : LinePart) : s.PortsAs (s.giveToLine f l) := by
  simp only [State.giveToLine]
  repeat' split
  all_goals simp [State.PortsAs]

theorem portsAs_grantTo (k : HostId) (p : TxPosition) (rest : List TxPosition) : s.PortsAs (s.grantTo k p rest) := by
  simp only [State.grantTo]
  refine State.PortsAs.trans ?_ (portsAs_giveToLine ..)
  refine State.PortsAs.trans ?_ (portsAs_switchLocally ..)
  exact ⟨rfl, rfl⟩

theorem portsAs_granted : s.PortsAs (granted s) := by
  unfold granted
  repeat' split
  · exact ⟨rfl, rfl⟩
  · exact ⟨rfl, rfl⟩
  · exact ⟨rfl, rfl⟩
  · exact portsAs_grantTo ..

theorem portsAs_sendCompleted : s.PortsAs (sendCompleted s) := by
  simp only [sendCompleted]
  split <;> simp [State.PortsAs]

/-! ### Device reset -/

theorem State.PortLaw.blocksReset (r : Option ResetCause) (cause : ResetCause) :
    ({ s.blocksReset with resetting := r, resetCause := cause } : State).PortLaw := by
  rw [State.portLaw_iff]
  intro k
  have port : ({ s.blocksReset with resetting := r, resetCause := cause } : State).port k = .reset (s.port k).held :=
    PerHost.get_map ..
  rw [port]
  exact Port.lawful_of_idle rfl rfl rfl _

theorem State.PortLaw.deviceResetEnded (law : s.PortLaw) : (deviceResetEnded s).PortLaw := by
  simp only [Machine.deviceResetEnded]
  split
  · exact law
  · split
    · exact (State.PortLaw.blocksReset none _).portsAs portsAs_lineWentUp
    · exact State.PortLaw.blocksReset none _

/-! ### Steps -/

/-- An event of the part, taken only while no device reset lasts. -/
theorem State.PortLaw.event (law : s.PortLaw) (as : s.PortsAs t) :
    (if s.resetting.isSome then s else t).PortLaw := by
  split
  · exact law
  · exact law.portsAs as

theorem State.PortLaw.linkEvent (law : s.PortLaw) (link : Bool) (as : s.PortsAs t) :
    (if s.resetting.isSome then s.setLink link else t).PortLaw := by
  split
  · exact law.portsAs ⟨rfl, rfl⟩
  · exact law.portsAs as

theorem State.PortLaw.portReset (law : s.PortLaw) :
    (if s.resetting.isSome then s.setHeld h true else Machine.portResetAsserted h s).PortLaw := by
  split
  · next lasts => exact law.setHeld fun _ => lasts
  · exact law.portResetAsserted

theorem exec_keeps_portLaw (i : Instr) (law : s.PortLaw) : ∃ t, exec i s = .next t ∧ t.PortLaw := by
  cases i with
  | selectAsserted h => exact ⟨_, rfl, law.beginTransaction⟩
  | selectReleased h => exact ⟨_, rfl, law.endTransaction⟩
  | portReset h => exact ⟨_, rfl, law.portReset⟩
  | portResetRelease h => exact ⟨_, rfl, law.setHeld nofun⟩
  | deviceReset cause => exact ⟨_, rfl, State.PortLaw.blocksReset _ _⟩
  | resetEnd => exact ⟨_, rfl, law.deviceResetEnded⟩
  | tick => exact ⟨_, rfl, law.event ⟨rfl, rfl⟩⟩
  | probeWindowExpiry j => exact ⟨_, rfl, law.event (portsAs_probeWindowExpired j)⟩
  | stageHoldExpiry j => exact ⟨_, rfl, law.event (portsAs_stageHoldExpired j)⟩
  | offerExpiry j => exact ⟨_, rfl, law.event (portsAs_offerExpired j)⟩
  | leaseRunOut j => exact ⟨_, rfl, law.event (portsAs_leaseRanOut j)⟩
  | graceExpiry j => exact ⟨_, rfl, law.event (portsAs_graceExpired j)⟩
  | dozeDelayExpiry h => exact ⟨_, rfl, law.event (portsAs_dozeDelayExpired h)⟩
  | alarmExpiry h => exact ⟨_, rfl, law.event (portsAs_alarmExpired h)⟩
  | attemptExpiry h => exact ⟨_, rfl, law.event (portsAs_attemptExpired h)⟩
  | restExpiry h => exact ⟨_, rfl, law.event (portsAs_restExpired h)⟩
  | accordWindowExpiry => exact ⟨_, rfl, law.event portsAs_accordWindowExpired⟩
  | lineUpEvent => exact ⟨_, rfl, law.linkEvent true portsAs_lineWentUp⟩
  | lineDownEvent => exact ⟨_, rfl, law.linkEvent false portsAs_lineWentDown⟩
  | frameStart => exact ⟨_, rfl, law.event portsAs_frameStarted⟩
  | receptionCellNeed b => exact ⟨_, rfl, law.event (portsAs_cellNeedMet b)⟩
  | wireFrameEnd => exact ⟨_, rfl, law.event portsAs_wireFrameEnded⟩
  | grant => exact ⟨_, rfl, law.event portsAs_granted⟩
  | sendCompletion => exact ⟨_, rfl, law.event portsAs_sendCompleted⟩
  | wholeByteReceived b => exact ⟨_, rfl, law.event (portsAs_byteReceived b)⟩
  | receiveErrorMarked => exact ⟨_, rfl, law.event portsAs_errorMarked⟩
  -- every other row is a request
  | _ => exact ⟨_, rfl, law.shiftIn _⟩

theorem step_keeps_portLaw (run : step s = .next t) (law : s.PortLaw) : t.PortLaw := by
  unfold step at run
  split at run
  · cases run
    exact law
  · next i rest _ =>
    obtain ⟨u, next, kept⟩ := exec_keeps_portLaw i (law.portsAs (t := { s with pending := rest }) ⟨rfl, rfl⟩)
    cases next.symm.trans run
    exact kept

end

/-- Settles O58: every move keeps the fields of each host with its reachability state, and every event the phase of
each port with its buffers. -/
theorem stepKeepsReachabilityAndPhase : Obligations.StepKeepsReachabilityAndPhase := by
  intro s t run
  exact ⟨keeps_of_step (P := fun x => x.1.ReachLaw) (fun _ _ move => .move move) run, step_keeps_portLaw run⟩

end Sys2Proof.Machine
end
